-- ==== Sys2Proof/Word.lean ====
section
/-! DEFINITION. The units of data of spec/00_scope.md R6: byte, wyde, tetra, octa (octabyte). -/

namespace Sys2Proof

/-- One byte, 8 bits (00_scope.md R6). -/
abbrev Byte := BitVec 8

/-- A wyde, two bytes, 16 bits (00_scope.md R6). -/
abbrev Wyde := BitVec 16

/-- A tetra, four bytes, 32 bits (00_scope.md R6); an instruction word is one (30_encoding.md R92). -/
abbrev Tetra := BitVec 32

/-- An octa (octabyte), eight bytes, 64 bits (00_scope.md R6): a register, an address, a double. -/
abbrev Octa := BitVec 64

end Sys2Proof
end

