-- ==== Sys2Proof/Syntax.lean ====
section
/-! DEFINITION. The instructions: one constructor per row of spec/opcode_table.json, in opcode order, those without
operands (status N and format 15) last. The bytes that formats 3, 4, 5 and 13 require to be zero are held, since a
meaning checks them (30_encoding.md R115, 49_system.md R453); the bytes that are never examined (status N, R114; format
15, R109) are not (log entry 18). Operand names follow the formats of 30_encoding.md R95 to R109: x, y, z are the bytes
X, Y, Z, yz is 256 * Y + Z, xyz is 65536 * X + 256 * Y + Z. -/

namespace Sys2Proof

/-- The instructions of 30_encoding.md R112. -/
inductive Instr
  /-- `TRAP` opcode 0x00, format 3 (OP X,Y,Z), 49_system.md R453. -/
  | trap (x y z : Byte)
  /-- `FCMP` opcode 0x01, format 1 (OP $X,$Y,$Z), 40_floating_point.md R137. -/
  | fcmp (x y z : Byte)
  /-- `FEQL` opcode 0x03, format 1 (OP $X,$Y,$Z), 40_floating_point.md R139. -/
  | feql (x y z : Byte)
  /-- `FADD` opcode 0x04, format 1 (OP $X,$Y,$Z), 40_floating_point.md R140. -/
  | fadd (x y z : Byte)
  /-- `FIX` opcode 0x05, format 4 (OP $X,$Z), 40_floating_point.md R141. -/
  | fix (x y z : Byte)
  /-- `FSUB` opcode 0x06, format 1 (OP $X,$Y,$Z), 40_floating_point.md R142. -/
  | fsub (x y z : Byte)
  /-- `FIXU` opcode 0x07, format 4 (OP $X,$Z), 40_floating_point.md R143. -/
  | fixu (x y z : Byte)
  /-- `FLOT` opcode 0x08, format 4 (OP $X,$Z), 40_floating_point.md R144. -/
  | flot (x y z : Byte)
  /-- `FLOTI` opcode 0x09, format 5 (OP $X,Z), 40_floating_point.md R145. -/
  | floti (x y z : Byte)
  /-- `FLOTU` opcode 0x0A, format 4 (OP $X,$Z), 40_floating_point.md R146. -/
  | flotu (x y z : Byte)
  /-- `FLOTUI` opcode 0x0B, format 5 (OP $X,Z), 40_floating_point.md R147. -/
  | flotui (x y z : Byte)
  /-- `SFLOT` opcode 0x0C, format 4 (OP $X,$Z), 40_floating_point.md R148. -/
  | sflot (x y z : Byte)
  /-- `SFLOTI` opcode 0x0D, format 5 (OP $X,Z), 40_floating_point.md R149. -/
  | sfloti (x y z : Byte)
  /-- `SFLOTU` opcode 0x0E, format 4 (OP $X,$Z), 40_floating_point.md R150. -/
  | sflotu (x y z : Byte)
  /-- `SFLOTUI` opcode 0x0F, format 5 (OP $X,Z), 40_floating_point.md R151. -/
  | sflotui (x y z : Byte)
  /-- `FMUL` opcode 0x10, format 1 (OP $X,$Y,$Z), 40_floating_point.md R152. -/
  | fmul (x y z : Byte)
  /-- `FDIV` opcode 0x14, format 1 (OP $X,$Y,$Z), 40_floating_point.md R156. -/
  | fdiv (x y z : Byte)
  /-- `FSQRT` opcode 0x15, format 4 (OP $X,$Z), 40_floating_point.md R157. -/
  | fsqrt (x y z : Byte)
  /-- `FREM` opcode 0x16, format 1 (OP $X,$Y,$Z), 40_floating_point.md R158. -/
  | frem (x y z : Byte)
  /-- `FINT` opcode 0x17, format 4 (OP $X,$Z), 40_floating_point.md R159. -/
  | fint (x y z : Byte)
  /-- `MUL` opcode 0x18, format 1 (OP $X,$Y,$Z), 41_integer_arithmetic.md R165. -/
  | mul (x y z : Byte)
  /-- `MULI` opcode 0x19, format 2 (OP $X,$Y,Z), 41_integer_arithmetic.md R166. -/
  | muli (x y z : Byte)
  /-- `MULU` opcode 0x1A, format 1 (OP $X,$Y,$Z), 41_integer_arithmetic.md R167. -/
  | mulu (x y z : Byte)
  /-- `MULUI` opcode 0x1B, format 2 (OP $X,$Y,Z), 41_integer_arithmetic.md R168. -/
  | mului (x y z : Byte)
  /-- `DIV` opcode 0x1C, format 1 (OP $X,$Y,$Z), 41_integer_arithmetic.md R169. -/
  | div (x y z : Byte)
  /-- `DIVI` opcode 0x1D, format 2 (OP $X,$Y,Z), 41_integer_arithmetic.md R170. -/
  | divi (x y z : Byte)
  /-- `DIVU` opcode 0x1E, format 1 (OP $X,$Y,$Z), 41_integer_arithmetic.md R171. -/
  | divu (x y z : Byte)
  /-- `DIVUI` opcode 0x1F, format 2 (OP $X,$Y,Z), 41_integer_arithmetic.md R172. -/
  | divui (x y z : Byte)
  /-- `ADD` opcode 0x20, format 1 (OP $X,$Y,$Z), 41_integer_arithmetic.md R173. -/
  | add (x y z : Byte)
  /-- `ADDI` opcode 0x21, format 2 (OP $X,$Y,Z), 41_integer_arithmetic.md R174. -/
  | addi (x y z : Byte)
  /-- `ADDU` opcode 0x22, format 1 (OP $X,$Y,$Z), 41_integer_arithmetic.md R175. -/
  | addu (x y z : Byte)
  /-- `ADDUI` opcode 0x23, format 2 (OP $X,$Y,Z), 41_integer_arithmetic.md R176. -/
  | addui (x y z : Byte)
  /-- `SUB` opcode 0x24, format 1 (OP $X,$Y,$Z), 41_integer_arithmetic.md R177. -/
  | sub (x y z : Byte)
  /-- `SUBI` opcode 0x25, format 2 (OP $X,$Y,Z), 41_integer_arithmetic.md R178. -/
  | subi (x y z : Byte)
  /-- `SUBU` opcode 0x26, format 1 (OP $X,$Y,$Z), 41_integer_arithmetic.md R179. -/
  | subu (x y z : Byte)
  /-- `SUBUI` opcode 0x27, format 2 (OP $X,$Y,Z), 41_integer_arithmetic.md R180. -/
  | subui (x y z : Byte)
  /-- `2ADDU` opcode 0x28, format 1 (OP $X,$Y,$Z), 41_integer_arithmetic.md R181. -/
  | addu2 (x y z : Byte)
  /-- `2ADDUI` opcode 0x29, format 2 (OP $X,$Y,Z), 41_integer_arithmetic.md R182. -/
  | addu2i (x y z : Byte)
  /-- `4ADDU` opcode 0x2A, format 1 (OP $X,$Y,$Z), 41_integer_arithmetic.md R183. -/
  | addu4 (x y z : Byte)
  /-- `4ADDUI` opcode 0x2B, format 2 (OP $X,$Y,Z), 41_integer_arithmetic.md R184. -/
  | addu4i (x y z : Byte)
  /-- `8ADDU` opcode 0x2C, format 1 (OP $X,$Y,$Z), 41_integer_arithmetic.md R185. -/
  | addu8 (x y z : Byte)
  /-- `8ADDUI` opcode 0x2D, format 2 (OP $X,$Y,Z), 41_integer_arithmetic.md R186. -/
  | addu8i (x y z : Byte)
  /-- `16ADDU` opcode 0x2E, format 1 (OP $X,$Y,$Z), 41_integer_arithmetic.md R187. -/
  | addu16 (x y z : Byte)
  /-- `16ADDUI` opcode 0x2F, format 2 (OP $X,$Y,Z), 41_integer_arithmetic.md R188. -/
  | addu16i (x y z : Byte)
  /-- `CMP` opcode 0x30, format 1 (OP $X,$Y,$Z), 41_integer_arithmetic.md R189. -/
  | cmp (x y z : Byte)
  /-- `CMPI` opcode 0x31, format 2 (OP $X,$Y,Z), 41_integer_arithmetic.md R190. -/
  | cmpi (x y z : Byte)
  /-- `CMPU` opcode 0x32, format 1 (OP $X,$Y,$Z), 41_integer_arithmetic.md R191. -/
  | cmpu (x y z : Byte)
  /-- `CMPUI` opcode 0x33, format 2 (OP $X,$Y,Z), 41_integer_arithmetic.md R192. -/
  | cmpui (x y z : Byte)
  /-- `NEG` opcode 0x34, format 6 (OP $X,Y,$Z), 41_integer_arithmetic.md R193. -/
  | neg (x y z : Byte)
  /-- `NEGI` opcode 0x35, format 7 (OP $X,Y,Z), 41_integer_arithmetic.md R194. -/
  | negi (x y z : Byte)
  /-- `NEGU` opcode 0x36, format 6 (OP $X,Y,$Z), 41_integer_arithmetic.md R195. -/
  | negu (x y z : Byte)
  /-- `NEGUI` opcode 0x37, format 7 (OP $X,Y,Z), 41_integer_arithmetic.md R196. -/
  | negui (x y z : Byte)
  /-- `SL` opcode 0x38, format 1 (OP $X,$Y,$Z), 41_integer_arithmetic.md R197. -/
  | sl (x y z : Byte)
  /-- `SLI` opcode 0x39, format 2 (OP $X,$Y,Z), 41_integer_arithmetic.md R198. -/
  | sli (x y z : Byte)
  /-- `SLU` opcode 0x3A, format 1 (OP $X,$Y,$Z), 41_integer_arithmetic.md R199. -/
  | slu (x y z : Byte)
  /-- `SLUI` opcode 0x3B, format 2 (OP $X,$Y,Z), 41_integer_arithmetic.md R200. -/
  | slui (x y z : Byte)
  /-- `SR` opcode 0x3C, format 1 (OP $X,$Y,$Z), 41_integer_arithmetic.md R201. -/
  | sr (x y z : Byte)
  /-- `SRI` opcode 0x3D, format 2 (OP $X,$Y,Z), 41_integer_arithmetic.md R202. -/
  | sri (x y z : Byte)
  /-- `SRU` opcode 0x3E, format 1 (OP $X,$Y,$Z), 41_integer_arithmetic.md R203. -/
  | sru (x y z : Byte)
  /-- `SRUI` opcode 0x3F, format 2 (OP $X,$Y,Z), 41_integer_arithmetic.md R204. -/
  | srui (x y z : Byte)
  /-- `BN` opcode 0x40, format 8 (OP $X,RA), 42_branches.md R214. -/
  | bn (x : Byte) (yz : Wyde)
  /-- `BNB` opcode 0x41, format 8 (OP $X,RA), 42_branches.md R215. -/
  | bnb (x : Byte) (yz : Wyde)
  /-- `BZ` opcode 0x42, format 8 (OP $X,RA), 42_branches.md R216. -/
  | bz (x : Byte) (yz : Wyde)
  /-- `BZB` opcode 0x43, format 8 (OP $X,RA), 42_branches.md R217. -/
  | bzb (x : Byte) (yz : Wyde)
  /-- `BP` opcode 0x44, format 8 (OP $X,RA), 42_branches.md R218. -/
  | bp (x : Byte) (yz : Wyde)
  /-- `BPB` opcode 0x45, format 8 (OP $X,RA), 42_branches.md R219. -/
  | bpb (x : Byte) (yz : Wyde)
  /-- `BOD` opcode 0x46, format 8 (OP $X,RA), 42_branches.md R220. -/
  | bod (x : Byte) (yz : Wyde)
  /-- `BODB` opcode 0x47, format 8 (OP $X,RA), 42_branches.md R221. -/
  | bodb (x : Byte) (yz : Wyde)
  /-- `BNN` opcode 0x48, format 8 (OP $X,RA), 42_branches.md R222. -/
  | bnn (x : Byte) (yz : Wyde)
  /-- `BNNB` opcode 0x49, format 8 (OP $X,RA), 42_branches.md R223. -/
  | bnnb (x : Byte) (yz : Wyde)
  /-- `BNZ` opcode 0x4A, format 8 (OP $X,RA), 42_branches.md R224. -/
  | bnz (x : Byte) (yz : Wyde)
  /-- `BNZB` opcode 0x4B, format 8 (OP $X,RA), 42_branches.md R225. -/
  | bnzb (x : Byte) (yz : Wyde)
  /-- `BNP` opcode 0x4C, format 8 (OP $X,RA), 42_branches.md R226. -/
  | bnp (x : Byte) (yz : Wyde)
  /-- `BNPB` opcode 0x4D, format 8 (OP $X,RA), 42_branches.md R227. -/
  | bnpb (x : Byte) (yz : Wyde)
  /-- `BEV` opcode 0x4E, format 8 (OP $X,RA), 42_branches.md R228. -/
  | bev (x : Byte) (yz : Wyde)
  /-- `BEVB` opcode 0x4F, format 8 (OP $X,RA), 42_branches.md R229. -/
  | bevb (x : Byte) (yz : Wyde)
  /-- `PBN` opcode 0x50, format 8 (OP $X,RA), 42_branches.md R230. -/
  | pbn (x : Byte) (yz : Wyde)
  /-- `PBNB` opcode 0x51, format 8 (OP $X,RA), 42_branches.md R231. -/
  | pbnb (x : Byte) (yz : Wyde)
  /-- `PBZ` opcode 0x52, format 8 (OP $X,RA), 42_branches.md R232. -/
  | pbz (x : Byte) (yz : Wyde)
  /-- `PBZB` opcode 0x53, format 8 (OP $X,RA), 42_branches.md R233. -/
  | pbzb (x : Byte) (yz : Wyde)
  /-- `PBP` opcode 0x54, format 8 (OP $X,RA), 42_branches.md R234. -/
  | pbp (x : Byte) (yz : Wyde)
  /-- `PBPB` opcode 0x55, format 8 (OP $X,RA), 42_branches.md R235. -/
  | pbpb (x : Byte) (yz : Wyde)
  /-- `PBOD` opcode 0x56, format 8 (OP $X,RA), 42_branches.md R236. -/
  | pbod (x : Byte) (yz : Wyde)
  /-- `PBODB` opcode 0x57, format 8 (OP $X,RA), 42_branches.md R237. -/
  | pbodb (x : Byte) (yz : Wyde)
  /-- `PBNN` opcode 0x58, format 8 (OP $X,RA), 42_branches.md R238. -/
  | pbnn (x : Byte) (yz : Wyde)
  /-- `PBNNB` opcode 0x59, format 8 (OP $X,RA), 42_branches.md R239. -/
  | pbnnb (x : Byte) (yz : Wyde)
  /-- `PBNZ` opcode 0x5A, format 8 (OP $X,RA), 42_branches.md R240. -/
  | pbnz (x : Byte) (yz : Wyde)
  /-- `PBNZB` opcode 0x5B, format 8 (OP $X,RA), 42_branches.md R241. -/
  | pbnzb (x : Byte) (yz : Wyde)
  /-- `PBNP` opcode 0x5C, format 8 (OP $X,RA), 42_branches.md R242. -/
  | pbnp (x : Byte) (yz : Wyde)
  /-- `PBNPB` opcode 0x5D, format 8 (OP $X,RA), 42_branches.md R243. -/
  | pbnpb (x : Byte) (yz : Wyde)
  /-- `PBEV` opcode 0x5E, format 8 (OP $X,RA), 42_branches.md R244. -/
  | pbev (x : Byte) (yz : Wyde)
  /-- `PBEVB` opcode 0x5F, format 8 (OP $X,RA), 42_branches.md R245. -/
  | pbevb (x : Byte) (yz : Wyde)
  /-- `CSN` opcode 0x60, format 1 (OP $X,$Y,$Z), 43_conditional.md R253. -/
  | csn (x y z : Byte)
  /-- `CSNI` opcode 0x61, format 2 (OP $X,$Y,Z), 43_conditional.md R254. -/
  | csni (x y z : Byte)
  /-- `CSZ` opcode 0x62, format 1 (OP $X,$Y,$Z), 43_conditional.md R255. -/
  | csz (x y z : Byte)
  /-- `CSZI` opcode 0x63, format 2 (OP $X,$Y,Z), 43_conditional.md R256. -/
  | cszi (x y z : Byte)
  /-- `CSP` opcode 0x64, format 1 (OP $X,$Y,$Z), 43_conditional.md R257. -/
  | csp (x y z : Byte)
  /-- `CSPI` opcode 0x65, format 2 (OP $X,$Y,Z), 43_conditional.md R258. -/
  | cspi (x y z : Byte)
  /-- `CSOD` opcode 0x66, format 1 (OP $X,$Y,$Z), 43_conditional.md R259. -/
  | csod (x y z : Byte)
  /-- `CSODI` opcode 0x67, format 2 (OP $X,$Y,Z), 43_conditional.md R260. -/
  | csodi (x y z : Byte)
  /-- `CSNN` opcode 0x68, format 1 (OP $X,$Y,$Z), 43_conditional.md R261. -/
  | csnn (x y z : Byte)
  /-- `CSNNI` opcode 0x69, format 2 (OP $X,$Y,Z), 43_conditional.md R262. -/
  | csnni (x y z : Byte)
  /-- `CSNZ` opcode 0x6A, format 1 (OP $X,$Y,$Z), 43_conditional.md R263. -/
  | csnz (x y z : Byte)
  /-- `CSNZI` opcode 0x6B, format 2 (OP $X,$Y,Z), 43_conditional.md R264. -/
  | csnzi (x y z : Byte)
  /-- `CSNP` opcode 0x6C, format 1 (OP $X,$Y,$Z), 43_conditional.md R265. -/
  | csnp (x y z : Byte)
  /-- `CSNPI` opcode 0x6D, format 2 (OP $X,$Y,Z), 43_conditional.md R266. -/
  | csnpi (x y z : Byte)
  /-- `CSEV` opcode 0x6E, format 1 (OP $X,$Y,$Z), 43_conditional.md R267. -/
  | csev (x y z : Byte)
  /-- `CSEVI` opcode 0x6F, format 2 (OP $X,$Y,Z), 43_conditional.md R268. -/
  | csevi (x y z : Byte)
  /-- `ZSN` opcode 0x70, format 1 (OP $X,$Y,$Z), 43_conditional.md R269. -/
  | zsn (x y z : Byte)
  /-- `ZSNI` opcode 0x71, format 2 (OP $X,$Y,Z), 43_conditional.md R270. -/
  | zsni (x y z : Byte)
  /-- `ZSZ` opcode 0x72, format 1 (OP $X,$Y,$Z), 43_conditional.md R271. -/
  | zsz (x y z : Byte)
  /-- `ZSZI` opcode 0x73, format 2 (OP $X,$Y,Z), 43_conditional.md R272. -/
  | zszi (x y z : Byte)
  /-- `ZSP` opcode 0x74, format 1 (OP $X,$Y,$Z), 43_conditional.md R273. -/
  | zsp (x y z : Byte)
  /-- `ZSPI` opcode 0x75, format 2 (OP $X,$Y,Z), 43_conditional.md R274. -/
  | zspi (x y z : Byte)
  /-- `ZSOD` opcode 0x76, format 1 (OP $X,$Y,$Z), 43_conditional.md R275. -/
  | zsod (x y z : Byte)
  /-- `ZSODI` opcode 0x77, format 2 (OP $X,$Y,Z), 43_conditional.md R276. -/
  | zsodi (x y z : Byte)
  /-- `ZSNN` opcode 0x78, format 1 (OP $X,$Y,$Z), 43_conditional.md R277. -/
  | zsnn (x y z : Byte)
  /-- `ZSNNI` opcode 0x79, format 2 (OP $X,$Y,Z), 43_conditional.md R278. -/
  | zsnni (x y z : Byte)
  /-- `ZSNZ` opcode 0x7A, format 1 (OP $X,$Y,$Z), 43_conditional.md R279. -/
  | zsnz (x y z : Byte)
  /-- `ZSNZI` opcode 0x7B, format 2 (OP $X,$Y,Z), 43_conditional.md R280. -/
  | zsnzi (x y z : Byte)
  /-- `ZSNP` opcode 0x7C, format 1 (OP $X,$Y,$Z), 43_conditional.md R281. -/
  | zsnp (x y z : Byte)
  /-- `ZSNPI` opcode 0x7D, format 2 (OP $X,$Y,Z), 43_conditional.md R282. -/
  | zsnpi (x y z : Byte)
  /-- `ZSEV` opcode 0x7E, format 1 (OP $X,$Y,$Z), 43_conditional.md R283. -/
  | zsev (x y z : Byte)
  /-- `ZSEVI` opcode 0x7F, format 2 (OP $X,$Y,Z), 43_conditional.md R284. -/
  | zsevi (x y z : Byte)
  /-- `LDB` opcode 0x80, format 1 (OP $X,$Y,$Z), 44_loads.md R294. -/
  | ldb (x y z : Byte)
  /-- `LDBI` opcode 0x81, format 2 (OP $X,$Y,Z), 44_loads.md R295. -/
  | ldbi (x y z : Byte)
  /-- `LDBU` opcode 0x82, format 1 (OP $X,$Y,$Z), 44_loads.md R296. -/
  | ldbu (x y z : Byte)
  /-- `LDBUI` opcode 0x83, format 2 (OP $X,$Y,Z), 44_loads.md R297. -/
  | ldbui (x y z : Byte)
  /-- `LDW` opcode 0x84, format 1 (OP $X,$Y,$Z), 44_loads.md R298. -/
  | ldw (x y z : Byte)
  /-- `LDWI` opcode 0x85, format 2 (OP $X,$Y,Z), 44_loads.md R299. -/
  | ldwi (x y z : Byte)
  /-- `LDWU` opcode 0x86, format 1 (OP $X,$Y,$Z), 44_loads.md R300. -/
  | ldwu (x y z : Byte)
  /-- `LDWUI` opcode 0x87, format 2 (OP $X,$Y,Z), 44_loads.md R301. -/
  | ldwui (x y z : Byte)
  /-- `LDT` opcode 0x88, format 1 (OP $X,$Y,$Z), 44_loads.md R302. -/
  | ldt (x y z : Byte)
  /-- `LDTI` opcode 0x89, format 2 (OP $X,$Y,Z), 44_loads.md R303. -/
  | ldti (x y z : Byte)
  /-- `LDTU` opcode 0x8A, format 1 (OP $X,$Y,$Z), 44_loads.md R304. -/
  | ldtu (x y z : Byte)
  /-- `LDTUI` opcode 0x8B, format 2 (OP $X,$Y,Z), 44_loads.md R305. -/
  | ldtui (x y z : Byte)
  /-- `LDO` opcode 0x8C, format 1 (OP $X,$Y,$Z), 44_loads.md R306. -/
  | ldo (x y z : Byte)
  /-- `LDOI` opcode 0x8D, format 2 (OP $X,$Y,Z), 44_loads.md R307. -/
  | ldoi (x y z : Byte)
  /-- `LDOU` opcode 0x8E, format 1 (OP $X,$Y,$Z), 44_loads.md R308. -/
  | ldou (x y z : Byte)
  /-- `LDOUI` opcode 0x8F, format 2 (OP $X,$Y,Z), 44_loads.md R309. -/
  | ldoui (x y z : Byte)
  /-- `LDSF` opcode 0x90, format 1 (OP $X,$Y,$Z), 44_loads.md R310. -/
  | ldsf (x y z : Byte)
  /-- `LDSFI` opcode 0x91, format 2 (OP $X,$Y,Z), 44_loads.md R311. -/
  | ldsfi (x y z : Byte)
  /-- `LDHT` opcode 0x92, format 1 (OP $X,$Y,$Z), 44_loads.md R312. -/
  | ldht (x y z : Byte)
  /-- `LDHTI` opcode 0x93, format 2 (OP $X,$Y,Z), 44_loads.md R313. -/
  | ldhti (x y z : Byte)
  /-- `GO` opcode 0x9E, format 1 (OP $X,$Y,$Z), 48_control_transfer.md R433. -/
  | go (x y z : Byte)
  /-- `GOI` opcode 0x9F, format 2 (OP $X,$Y,Z), 48_control_transfer.md R434. -/
  | goi (x y z : Byte)
  /-- `STB` opcode 0xA0, format 1 (OP $X,$Y,$Z), 45_stores.md R333. -/
  | stb (x y z : Byte)
  /-- `STBI` opcode 0xA1, format 2 (OP $X,$Y,Z), 45_stores.md R334. -/
  | stbi (x y z : Byte)
  /-- `STBU` opcode 0xA2, format 1 (OP $X,$Y,$Z), 45_stores.md R335. -/
  | stbu (x y z : Byte)
  /-- `STBUI` opcode 0xA3, format 2 (OP $X,$Y,Z), 45_stores.md R336. -/
  | stbui (x y z : Byte)
  /-- `STW` opcode 0xA4, format 1 (OP $X,$Y,$Z), 45_stores.md R337. -/
  | stw (x y z : Byte)
  /-- `STWI` opcode 0xA5, format 2 (OP $X,$Y,Z), 45_stores.md R338. -/
  | stwi (x y z : Byte)
  /-- `STWU` opcode 0xA6, format 1 (OP $X,$Y,$Z), 45_stores.md R339. -/
  | stwu (x y z : Byte)
  /-- `STWUI` opcode 0xA7, format 2 (OP $X,$Y,Z), 45_stores.md R340. -/
  | stwui (x y z : Byte)
  /-- `STT` opcode 0xA8, format 1 (OP $X,$Y,$Z), 45_stores.md R341. -/
  | stt (x y z : Byte)
  /-- `STTI` opcode 0xA9, format 2 (OP $X,$Y,Z), 45_stores.md R342. -/
  | stti (x y z : Byte)
  /-- `STTU` opcode 0xAA, format 1 (OP $X,$Y,$Z), 45_stores.md R343. -/
  | sttu (x y z : Byte)
  /-- `STTUI` opcode 0xAB, format 2 (OP $X,$Y,Z), 45_stores.md R344. -/
  | sttui (x y z : Byte)
  /-- `STO` opcode 0xAC, format 1 (OP $X,$Y,$Z), 45_stores.md R345. -/
  | sto (x y z : Byte)
  /-- `STOI` opcode 0xAD, format 2 (OP $X,$Y,Z), 45_stores.md R346. -/
  | stoi (x y z : Byte)
  /-- `STOU` opcode 0xAE, format 1 (OP $X,$Y,$Z), 45_stores.md R347. -/
  | stou (x y z : Byte)
  /-- `STOUI` opcode 0xAF, format 2 (OP $X,$Y,Z), 45_stores.md R348. -/
  | stoui (x y z : Byte)
  /-- `STSF` opcode 0xB0, format 1 (OP $X,$Y,$Z), 45_stores.md R349. -/
  | stsf (x y z : Byte)
  /-- `STSFI` opcode 0xB1, format 2 (OP $X,$Y,Z), 45_stores.md R350. -/
  | stsfi (x y z : Byte)
  /-- `STHT` opcode 0xB2, format 1 (OP $X,$Y,$Z), 45_stores.md R351. -/
  | stht (x y z : Byte)
  /-- `STHTI` opcode 0xB3, format 2 (OP $X,$Y,Z), 45_stores.md R352. -/
  | sthti (x y z : Byte)
  /-- `STCO` opcode 0xB4, format 9 (OP X,$Y,$Z), 45_stores.md R353. -/
  | stco (x y z : Byte)
  /-- `STCOI` opcode 0xB5, format 10 (OP X,$Y,Z), 45_stores.md R354. -/
  | stcoi (x y z : Byte)
  /-- `CALL` opcode 0xBE, format 9 (OP X,$Y,$Z), 48_control_transfer.md R435. -/
  | call (x y z : Byte)
  /-- `CALLI` opcode 0xBF, format 10 (OP X,$Y,Z), 48_control_transfer.md R436. -/
  | calli (x y z : Byte)
  /-- `OR` opcode 0xC0, format 1 (OP $X,$Y,$Z), 46_bitwise.md R374. -/
  | or (x y z : Byte)
  /-- `ORI` opcode 0xC1, format 2 (OP $X,$Y,Z), 46_bitwise.md R375. -/
  | ori (x y z : Byte)
  /-- `ORN` opcode 0xC2, format 1 (OP $X,$Y,$Z), 46_bitwise.md R376. -/
  | orn (x y z : Byte)
  /-- `ORNI` opcode 0xC3, format 2 (OP $X,$Y,Z), 46_bitwise.md R377. -/
  | orni (x y z : Byte)
  /-- `NOR` opcode 0xC4, format 1 (OP $X,$Y,$Z), 46_bitwise.md R378. -/
  | nor (x y z : Byte)
  /-- `NORI` opcode 0xC5, format 2 (OP $X,$Y,Z), 46_bitwise.md R379. -/
  | nori (x y z : Byte)
  /-- `XOR` opcode 0xC6, format 1 (OP $X,$Y,$Z), 46_bitwise.md R380. -/
  | xor (x y z : Byte)
  /-- `XORI` opcode 0xC7, format 2 (OP $X,$Y,Z), 46_bitwise.md R381. -/
  | xori (x y z : Byte)
  /-- `AND` opcode 0xC8, format 1 (OP $X,$Y,$Z), 46_bitwise.md R382. -/
  | and (x y z : Byte)
  /-- `ANDI` opcode 0xC9, format 2 (OP $X,$Y,Z), 46_bitwise.md R383. -/
  | andi (x y z : Byte)
  /-- `ANDN` opcode 0xCA, format 1 (OP $X,$Y,$Z), 46_bitwise.md R384. -/
  | andn (x y z : Byte)
  /-- `ANDNI` opcode 0xCB, format 2 (OP $X,$Y,Z), 46_bitwise.md R385. -/
  | andni (x y z : Byte)
  /-- `NAND` opcode 0xCC, format 1 (OP $X,$Y,$Z), 46_bitwise.md R386. -/
  | nand (x y z : Byte)
  /-- `NANDI` opcode 0xCD, format 2 (OP $X,$Y,Z), 46_bitwise.md R387. -/
  | nandi (x y z : Byte)
  /-- `NXOR` opcode 0xCE, format 1 (OP $X,$Y,$Z), 46_bitwise.md R388. -/
  | nxor (x y z : Byte)
  /-- `NXORI` opcode 0xCF, format 2 (OP $X,$Y,Z), 46_bitwise.md R389. -/
  | nxori (x y z : Byte)
  /-- `BDIF` opcode 0xD0, format 1 (OP $X,$Y,$Z), 46_bitwise.md R390. -/
  | bdif (x y z : Byte)
  /-- `BDIFI` opcode 0xD1, format 2 (OP $X,$Y,Z), 46_bitwise.md R391. -/
  | bdifi (x y z : Byte)
  /-- `WDIF` opcode 0xD2, format 1 (OP $X,$Y,$Z), 46_bitwise.md R392. -/
  | wdif (x y z : Byte)
  /-- `WDIFI` opcode 0xD3, format 2 (OP $X,$Y,Z), 46_bitwise.md R393. -/
  | wdifi (x y z : Byte)
  /-- `TDIF` opcode 0xD4, format 1 (OP $X,$Y,$Z), 46_bitwise.md R394. -/
  | tdif (x y z : Byte)
  /-- `TDIFI` opcode 0xD5, format 2 (OP $X,$Y,Z), 46_bitwise.md R395. -/
  | tdifi (x y z : Byte)
  /-- `ODIF` opcode 0xD6, format 1 (OP $X,$Y,$Z), 46_bitwise.md R396. -/
  | odif (x y z : Byte)
  /-- `ODIFI` opcode 0xD7, format 2 (OP $X,$Y,Z), 46_bitwise.md R397. -/
  | odifi (x y z : Byte)
  /-- `MUX` opcode 0xD8, format 1 (OP $X,$Y,$Z), 46_bitwise.md R398. -/
  | mux (x y z : Byte)
  /-- `MUXI` opcode 0xD9, format 2 (OP $X,$Y,Z), 46_bitwise.md R399. -/
  | muxi (x y z : Byte)
  /-- `SADD` opcode 0xDA, format 1 (OP $X,$Y,$Z), 46_bitwise.md R400. -/
  | sadd (x y z : Byte)
  /-- `SADDI` opcode 0xDB, format 2 (OP $X,$Y,Z), 46_bitwise.md R401. -/
  | saddi (x y z : Byte)
  /-- `MOR` opcode 0xDC, format 1 (OP $X,$Y,$Z), 46_bitwise.md R402. -/
  | mor (x y z : Byte)
  /-- `MORI` opcode 0xDD, format 2 (OP $X,$Y,Z), 46_bitwise.md R403. -/
  | mori (x y z : Byte)
  /-- `MXOR` opcode 0xDE, format 1 (OP $X,$Y,$Z), 46_bitwise.md R404. -/
  | mxor (x y z : Byte)
  /-- `MXORI` opcode 0xDF, format 2 (OP $X,$Y,Z), 46_bitwise.md R405. -/
  | mxori (x y z : Byte)
  /-- `SETH` opcode 0xE0, format 11 (OP $X,YZ), 47_wyde_immediate.md R412. -/
  | seth (x : Byte) (yz : Wyde)
  /-- `SETMH` opcode 0xE1, format 11 (OP $X,YZ), 47_wyde_immediate.md R413. -/
  | setmh (x : Byte) (yz : Wyde)
  /-- `SETML` opcode 0xE2, format 11 (OP $X,YZ), 47_wyde_immediate.md R414. -/
  | setml (x : Byte) (yz : Wyde)
  /-- `SETL` opcode 0xE3, format 11 (OP $X,YZ), 47_wyde_immediate.md R415. -/
  | setl (x : Byte) (yz : Wyde)
  /-- `INCH` opcode 0xE4, format 11 (OP $X,YZ), 47_wyde_immediate.md R416. -/
  | inch (x : Byte) (yz : Wyde)
  /-- `INCMH` opcode 0xE5, format 11 (OP $X,YZ), 47_wyde_immediate.md R417. -/
  | incmh (x : Byte) (yz : Wyde)
  /-- `INCML` opcode 0xE6, format 11 (OP $X,YZ), 47_wyde_immediate.md R418. -/
  | incml (x : Byte) (yz : Wyde)
  /-- `INCL` opcode 0xE7, format 11 (OP $X,YZ), 47_wyde_immediate.md R419. -/
  | incl (x : Byte) (yz : Wyde)
  /-- `ORH` opcode 0xE8, format 11 (OP $X,YZ), 47_wyde_immediate.md R420. -/
  | orh (x : Byte) (yz : Wyde)
  /-- `ORMH` opcode 0xE9, format 11 (OP $X,YZ), 47_wyde_immediate.md R421. -/
  | ormh (x : Byte) (yz : Wyde)
  /-- `ORML` opcode 0xEA, format 11 (OP $X,YZ), 47_wyde_immediate.md R422. -/
  | orml (x : Byte) (yz : Wyde)
  /-- `ORL` opcode 0xEB, format 11 (OP $X,YZ), 47_wyde_immediate.md R423. -/
  | orl (x : Byte) (yz : Wyde)
  /-- `ANDNH` opcode 0xEC, format 11 (OP $X,YZ), 47_wyde_immediate.md R424. -/
  | andnh (x : Byte) (yz : Wyde)
  /-- `ANDNMH` opcode 0xED, format 11 (OP $X,YZ), 47_wyde_immediate.md R425. -/
  | andnmh (x : Byte) (yz : Wyde)
  /-- `ANDNML` opcode 0xEE, format 11 (OP $X,YZ), 47_wyde_immediate.md R426. -/
  | andnml (x : Byte) (yz : Wyde)
  /-- `ANDNL` opcode 0xEF, format 11 (OP $X,YZ), 47_wyde_immediate.md R427. -/
  | andnl (x : Byte) (yz : Wyde)
  /-- `JMP` opcode 0xF0, format 12 (OP LRA), 48_control_transfer.md R437. -/
  | jmp (xyz : BitVec 24)
  /-- `JMPB` opcode 0xF1, format 12 (OP LRA), 48_control_transfer.md R438. -/
  | jmpb (xyz : BitVec 24)
  /-- `GETA` opcode 0xF4, format 8 (OP $X,RA), 48_control_transfer.md R441. -/
  | geta (x : Byte) (yz : Wyde)
  /-- `GETAB` opcode 0xF5, format 8 (OP $X,RA), 48_control_transfer.md R442. -/
  | getab (x : Byte) (yz : Wyde)
  /-- `PUT` opcode 0xF6, format 13 (OP X,$Z), 49_system.md R454. -/
  | put (x y z : Byte)
  /-- `GET` opcode 0xFE, format 5 (OP $X,Z), 49_system.md R461. -/
  | get (x y z : Byte)
  /-- `FUN` opcode 0x02, status N, 40_floating_point.md R138. -/
  | funord
  /-- `FCMPE` opcode 0x11, status N, 40_floating_point.md R153. -/
  | fcmpe
  /-- `FUNE` opcode 0x12, status N, 40_floating_point.md R154. -/
  | fune
  /-- `FEQLE` opcode 0x13, status N, 40_floating_point.md R155. -/
  | feqle
  /-- `CSWAP` opcode 0x94, status N, 44_loads.md R314. -/
  | cswap
  /-- `CSWAPI` opcode 0x95, status N, 44_loads.md R315. -/
  | cswapi
  /-- `LDUNC` opcode 0x96, status N, 44_loads.md R316. -/
  | ldunc
  /-- `LDUNCI` opcode 0x97, status N, 44_loads.md R317. -/
  | ldunci
  /-- `LDVTS` opcode 0x98, status N, 44_loads.md R318. -/
  | ldvts
  /-- `LDVTSI` opcode 0x99, status N, 44_loads.md R319. -/
  | ldvtsi
  /-- `PRELD` opcode 0x9A, status N, 44_loads.md R320. -/
  | preld
  /-- `PRELDI` opcode 0x9B, status N, 44_loads.md R321. -/
  | preldi
  /-- `PREGO` opcode 0x9C, status N, 44_loads.md R322. -/
  | prego
  /-- `PREGOI` opcode 0x9D, status N, 44_loads.md R323. -/
  | pregoi
  /-- `STUNC` opcode 0xB6, status N, 45_stores.md R355. -/
  | stunc
  /-- `STUNCI` opcode 0xB7, status N, 45_stores.md R356. -/
  | stunci
  /-- `SYNCD` opcode 0xB8, status N, 45_stores.md R357. -/
  | syncd
  /-- `SYNCDI` opcode 0xB9, status N, 45_stores.md R358. -/
  | syncdi
  /-- `PREST` opcode 0xBA, status N, 45_stores.md R359. -/
  | prest
  /-- `PRESTI` opcode 0xBB, status N, 45_stores.md R360. -/
  | presti
  /-- `SYNCID` opcode 0xBC, status N, 45_stores.md R361. -/
  | syncid
  /-- `SYNCIDI` opcode 0xBD, status N, 45_stores.md R362. -/
  | syncidi
  /-- `PUSHJ` opcode 0xF2, status N, 48_control_transfer.md R439. -/
  | pushj
  /-- `PUSHJB` opcode 0xF3, status N, 48_control_transfer.md R440. -/
  | pushjb
  /-- `PUTI` opcode 0xF7, status N, 49_system.md R455. -/
  | puti
  /-- `RET` opcode 0xF8, format 15 (OP), 48_control_transfer.md R443. -/
  | ret
  /-- `RESUME` opcode 0xF9, status N, 49_system.md R456. -/
  | resume
  /-- `SAVE` opcode 0xFA, status N, 49_system.md R457. -/
  | save
  /-- `UNSAVE` opcode 0xFB, status N, 49_system.md R458. -/
  | unsave
  /-- `SYNC` opcode 0xFC, status N, 49_system.md R459. -/
  | sync
  /-- `SWYM` opcode 0xFD, format 15 (OP), 49_system.md R460. -/
  | swym
  /-- `TRIP` opcode 0xFF, status N, 49_system.md R462. -/
  | trip
  deriving DecidableEq, Repr, Inhabited

end Sys2Proof
end

