-- ==== Sys2Proof/Decode.lean ====
section
/-! DEFINITION. The decoder, from the opcode map of 30_encoding.md R112 by the algorithm of R119, and the encoder. Bytes
come in rising address order, OP first (R91); a word is OP * 2^24 + X * 2^16 + Y * 2^8 + Z (R92). Every word of four
bytes is an instruction: illegal bytes are a fault when it executes, not of decoding (R119). -/

namespace Sys2Proof

/-- Why no instruction is read. -/
inductive DecodeError
  /-- Fewer than the four bytes of an instruction (30_encoding.md R90). -/
  | truncated
  /-- The opcode has no row; the map of 30_encoding.md R112 holds all 256, so this does not occur. -/
  | noSuchOpcode (op : Byte)
  deriving DecidableEq, Repr, Inhabited

/-- One row of the opcode map: the instruction from the bytes X, Y, Z. -/
abbrev Row := Byte → Byte → Byte → Instr

/-- The rows of the opcodes 0x00, the trap (49_system.md). -/
def systemTrapRows : List Row := [
  .trap]

/-- The rows of the opcodes 0x01 .. 0x17 (40_floating_point.md). -/
def floatingRows : List Row := [
  .fcmp, fun _ _ _ => .funord, .feql, .fadd, .fix, .fsub, .fixu, .flot, .floti, .flotu, .flotui, .sflot,
  .sfloti, .sflotu, .sflotui, .fmul, fun _ _ _ => .fcmpe, fun _ _ _ => .fune, fun _ _ _ => .feqle, .fdiv,
  .fsqrt, .frem, .fint]

/-- The rows of the opcodes 0x18 .. 0x3F (41_integer_arithmetic.md). -/
def integerRows : List Row := [
  .mul, .muli, .mulu, .mului, .div, .divi, .divu, .divui, .add, .addi, .addu, .addui, .sub, .subi, .subu,
  .subui, .addu2, .addu2i, .addu4, .addu4i, .addu8, .addu8i, .addu16, .addu16i, .cmp, .cmpi, .cmpu, .cmpui,
  .neg, .negi, .negu, .negui, .sl, .sli, .slu, .slui, .sr, .sri, .sru, .srui]

/-- The rows of the opcodes 0x40 .. 0x5F (42_branches.md). -/
def branchesRows : List Row := [
  fun x y z => .bn x (y ++ z), fun x y z => .bnb x (y ++ z), fun x y z => .bz x (y ++ z),
  fun x y z => .bzb x (y ++ z), fun x y z => .bp x (y ++ z), fun x y z => .bpb x (y ++ z),
  fun x y z => .bod x (y ++ z), fun x y z => .bodb x (y ++ z), fun x y z => .bnn x (y ++ z),
  fun x y z => .bnnb x (y ++ z), fun x y z => .bnz x (y ++ z), fun x y z => .bnzb x (y ++ z),
  fun x y z => .bnp x (y ++ z), fun x y z => .bnpb x (y ++ z), fun x y z => .bev x (y ++ z),
  fun x y z => .bevb x (y ++ z), fun x y z => .pbn x (y ++ z), fun x y z => .pbnb x (y ++ z),
  fun x y z => .pbz x (y ++ z), fun x y z => .pbzb x (y ++ z), fun x y z => .pbp x (y ++ z),
  fun x y z => .pbpb x (y ++ z), fun x y z => .pbod x (y ++ z), fun x y z => .pbodb x (y ++ z),
  fun x y z => .pbnn x (y ++ z), fun x y z => .pbnnb x (y ++ z), fun x y z => .pbnz x (y ++ z),
  fun x y z => .pbnzb x (y ++ z), fun x y z => .pbnp x (y ++ z), fun x y z => .pbnpb x (y ++ z),
  fun x y z => .pbev x (y ++ z), fun x y z => .pbevb x (y ++ z)]

/-- The rows of the opcodes 0x60 .. 0x7F (43_conditional.md). -/
def conditionalRows : List Row := [
  .csn, .csni, .csz, .cszi, .csp, .cspi, .csod, .csodi, .csnn, .csnni, .csnz, .csnzi, .csnp, .csnpi, .csev,
  .csevi, .zsn, .zsni, .zsz, .zszi, .zsp, .zspi, .zsod, .zsodi, .zsnn, .zsnni, .zsnz, .zsnzi, .zsnp, .zsnpi,
  .zsev, .zsevi]

/-- The rows of the opcodes 0x80 .. 0x9F (44_loads.md, GO in 48_control_transfer.md). -/
def loadsRows : List Row := [
  .ldb, .ldbi, .ldbu, .ldbui, .ldw, .ldwi, .ldwu, .ldwui, .ldt, .ldti, .ldtu, .ldtui, .ldo, .ldoi, .ldou,
  .ldoui, .ldsf, .ldsfi, .ldht, .ldhti, fun _ _ _ => .cswap, fun _ _ _ => .cswapi, fun _ _ _ => .ldunc,
  fun _ _ _ => .ldunci, fun _ _ _ => .ldvts, fun _ _ _ => .ldvtsi, fun _ _ _ => .preld, fun _ _ _ => .preldi,
  fun _ _ _ => .prego, fun _ _ _ => .pregoi, .go, .goi]

/-- The rows of the opcodes 0xA0 .. 0xBF (45_stores.md, CALL in 48_control_transfer.md). -/
def storesRows : List Row := [
  .stb, .stbi, .stbu, .stbui, .stw, .stwi, .stwu, .stwui, .stt, .stti, .sttu, .sttui, .sto, .stoi, .stou,
  .stoui, .stsf, .stsfi, .stht, .sthti, .stco, .stcoi, fun _ _ _ => .stunc, fun _ _ _ => .stunci,
  fun _ _ _ => .syncd, fun _ _ _ => .syncdi, fun _ _ _ => .prest, fun _ _ _ => .presti, fun _ _ _ => .syncid,
  fun _ _ _ => .syncidi, .call, .calli]

/-- The rows of the opcodes 0xC0 .. 0xDF (46_bitwise.md). -/
def bitwiseRows : List Row := [
  .or, .ori, .orn, .orni, .nor, .nori, .xor, .xori, .and, .andi, .andn, .andni, .nand, .nandi, .nxor, .nxori,
  .bdif, .bdifi, .wdif, .wdifi, .tdif, .tdifi, .odif, .odifi, .mux, .muxi, .sadd, .saddi, .mor, .mori, .mxor,
  .mxori]

/-- The rows of the opcodes 0xE0 .. 0xEF (47_wyde_immediate.md). -/
def wydesRows : List Row := [
  fun x y z => .seth x (y ++ z), fun x y z => .setmh x (y ++ z), fun x y z => .setml x (y ++ z),
  fun x y z => .setl x (y ++ z), fun x y z => .inch x (y ++ z), fun x y z => .incmh x (y ++ z),
  fun x y z => .incml x (y ++ z), fun x y z => .incl x (y ++ z), fun x y z => .orh x (y ++ z),
  fun x y z => .ormh x (y ++ z), fun x y z => .orml x (y ++ z), fun x y z => .orl x (y ++ z),
  fun x y z => .andnh x (y ++ z), fun x y z => .andnmh x (y ++ z), fun x y z => .andnml x (y ++ z),
  fun x y z => .andnl x (y ++ z)]

/-- The rows of the opcodes 0xF0 .. 0xFF (48_control_transfer.md, 49_system.md). -/
def controlRows : List Row := [
  fun x y z => .jmp (x ++ y ++ z), fun x y z => .jmpb (x ++ y ++ z), fun _ _ _ => .pushj,
  fun _ _ _ => .pushjb, fun x y z => .geta x (y ++ z), fun x y z => .getab x (y ++ z), .put,
  fun _ _ _ => .puti, fun _ _ _ => .ret, fun _ _ _ => .resume, fun _ _ _ => .save, fun _ _ _ => .unsave,
  fun _ _ _ => .sync, fun _ _ _ => .swym, .get, fun _ _ _ => .trip]

/-- The opcode map, indexed by OP (30_encoding.md R112). -/
def opcodeMap : List Row :=
  systemTrapRows ++ floatingRows ++ integerRows ++ branchesRows ++ conditionalRows ++
  loadsRows ++ storesRows ++ bitwiseRows ++ wydesRows ++ controlRows

/-- One instruction from the front of a list of bytes, with the bytes after it (30_encoding.md R119). -/
def decode : List Byte → Except DecodeError (Instr × List Byte)
  | op :: x :: y :: z :: rest =>
    match opcodeMap[op.toNat]? with
    | some row => .ok (row x y z, rest)
    | none => .error (.noSuchOpcode op)
  | _ => .error .truncated

/-- The operation code of an instruction (30_encoding.md R112). -/
def Instr.opcode (i : Instr) : Byte :=
  match i with
  | .trap _ _ _ => 0x00
  | .fcmp _ _ _ => 0x01
  | .funord => 0x02
  | .feql _ _ _ => 0x03
  | .fadd _ _ _ => 0x04
  | .fix _ _ _ => 0x05
  | .fsub _ _ _ => 0x06
  | .fixu _ _ _ => 0x07
  | .flot _ _ _ => 0x08
  | .floti _ _ _ => 0x09
  | .flotu _ _ _ => 0x0A
  | .flotui _ _ _ => 0x0B
  | .sflot _ _ _ => 0x0C
  | .sfloti _ _ _ => 0x0D
  | .sflotu _ _ _ => 0x0E
  | .sflotui _ _ _ => 0x0F
  | .fmul _ _ _ => 0x10
  | .fcmpe => 0x11
  | .fune => 0x12
  | .feqle => 0x13
  | .fdiv _ _ _ => 0x14
  | .fsqrt _ _ _ => 0x15
  | .frem _ _ _ => 0x16
  | .fint _ _ _ => 0x17
  | .mul _ _ _ => 0x18
  | .muli _ _ _ => 0x19
  | .mulu _ _ _ => 0x1A
  | .mului _ _ _ => 0x1B
  | .div _ _ _ => 0x1C
  | .divi _ _ _ => 0x1D
  | .divu _ _ _ => 0x1E
  | .divui _ _ _ => 0x1F
  | .add _ _ _ => 0x20
  | .addi _ _ _ => 0x21
  | .addu _ _ _ => 0x22
  | .addui _ _ _ => 0x23
  | .sub _ _ _ => 0x24
  | .subi _ _ _ => 0x25
  | .subu _ _ _ => 0x26
  | .subui _ _ _ => 0x27
  | .addu2 _ _ _ => 0x28
  | .addu2i _ _ _ => 0x29
  | .addu4 _ _ _ => 0x2A
  | .addu4i _ _ _ => 0x2B
  | .addu8 _ _ _ => 0x2C
  | .addu8i _ _ _ => 0x2D
  | .addu16 _ _ _ => 0x2E
  | .addu16i _ _ _ => 0x2F
  | .cmp _ _ _ => 0x30
  | .cmpi _ _ _ => 0x31
  | .cmpu _ _ _ => 0x32
  | .cmpui _ _ _ => 0x33
  | .neg _ _ _ => 0x34
  | .negi _ _ _ => 0x35
  | .negu _ _ _ => 0x36
  | .negui _ _ _ => 0x37
  | .sl _ _ _ => 0x38
  | .sli _ _ _ => 0x39
  | .slu _ _ _ => 0x3A
  | .slui _ _ _ => 0x3B
  | .sr _ _ _ => 0x3C
  | .sri _ _ _ => 0x3D
  | .sru _ _ _ => 0x3E
  | .srui _ _ _ => 0x3F
  | .bn _ _ => 0x40
  | .bnb _ _ => 0x41
  | .bz _ _ => 0x42
  | .bzb _ _ => 0x43
  | .bp _ _ => 0x44
  | .bpb _ _ => 0x45
  | .bod _ _ => 0x46
  | .bodb _ _ => 0x47
  | .bnn _ _ => 0x48
  | .bnnb _ _ => 0x49
  | .bnz _ _ => 0x4A
  | .bnzb _ _ => 0x4B
  | .bnp _ _ => 0x4C
  | .bnpb _ _ => 0x4D
  | .bev _ _ => 0x4E
  | .bevb _ _ => 0x4F
  | .pbn _ _ => 0x50
  | .pbnb _ _ => 0x51
  | .pbz _ _ => 0x52
  | .pbzb _ _ => 0x53
  | .pbp _ _ => 0x54
  | .pbpb _ _ => 0x55
  | .pbod _ _ => 0x56
  | .pbodb _ _ => 0x57
  | .pbnn _ _ => 0x58
  | .pbnnb _ _ => 0x59
  | .pbnz _ _ => 0x5A
  | .pbnzb _ _ => 0x5B
  | .pbnp _ _ => 0x5C
  | .pbnpb _ _ => 0x5D
  | .pbev _ _ => 0x5E
  | .pbevb _ _ => 0x5F
  | .csn _ _ _ => 0x60
  | .csni _ _ _ => 0x61
  | .csz _ _ _ => 0x62
  | .cszi _ _ _ => 0x63
  | .csp _ _ _ => 0x64
  | .cspi _ _ _ => 0x65
  | .csod _ _ _ => 0x66
  | .csodi _ _ _ => 0x67
  | .csnn _ _ _ => 0x68
  | .csnni _ _ _ => 0x69
  | .csnz _ _ _ => 0x6A
  | .csnzi _ _ _ => 0x6B
  | .csnp _ _ _ => 0x6C
  | .csnpi _ _ _ => 0x6D
  | .csev _ _ _ => 0x6E
  | .csevi _ _ _ => 0x6F
  | .zsn _ _ _ => 0x70
  | .zsni _ _ _ => 0x71
  | .zsz _ _ _ => 0x72
  | .zszi _ _ _ => 0x73
  | .zsp _ _ _ => 0x74
  | .zspi _ _ _ => 0x75
  | .zsod _ _ _ => 0x76
  | .zsodi _ _ _ => 0x77
  | .zsnn _ _ _ => 0x78
  | .zsnni _ _ _ => 0x79
  | .zsnz _ _ _ => 0x7A
  | .zsnzi _ _ _ => 0x7B
  | .zsnp _ _ _ => 0x7C
  | .zsnpi _ _ _ => 0x7D
  | .zsev _ _ _ => 0x7E
  | .zsevi _ _ _ => 0x7F
  | .ldb _ _ _ => 0x80
  | .ldbi _ _ _ => 0x81
  | .ldbu _ _ _ => 0x82
  | .ldbui _ _ _ => 0x83
  | .ldw _ _ _ => 0x84
  | .ldwi _ _ _ => 0x85
  | .ldwu _ _ _ => 0x86
  | .ldwui _ _ _ => 0x87
  | .ldt _ _ _ => 0x88
  | .ldti _ _ _ => 0x89
  | .ldtu _ _ _ => 0x8A
  | .ldtui _ _ _ => 0x8B
  | .ldo _ _ _ => 0x8C
  | .ldoi _ _ _ => 0x8D
  | .ldou _ _ _ => 0x8E
  | .ldoui _ _ _ => 0x8F
  | .ldsf _ _ _ => 0x90
  | .ldsfi _ _ _ => 0x91
  | .ldht _ _ _ => 0x92
  | .ldhti _ _ _ => 0x93
  | .cswap => 0x94
  | .cswapi => 0x95
  | .ldunc => 0x96
  | .ldunci => 0x97
  | .ldvts => 0x98
  | .ldvtsi => 0x99
  | .preld => 0x9A
  | .preldi => 0x9B
  | .prego => 0x9C
  | .pregoi => 0x9D
  | .go _ _ _ => 0x9E
  | .goi _ _ _ => 0x9F
  | .stb _ _ _ => 0xA0
  | .stbi _ _ _ => 0xA1
  | .stbu _ _ _ => 0xA2
  | .stbui _ _ _ => 0xA3
  | .stw _ _ _ => 0xA4
  | .stwi _ _ _ => 0xA5
  | .stwu _ _ _ => 0xA6
  | .stwui _ _ _ => 0xA7
  | .stt _ _ _ => 0xA8
  | .stti _ _ _ => 0xA9
  | .sttu _ _ _ => 0xAA
  | .sttui _ _ _ => 0xAB
  | .sto _ _ _ => 0xAC
  | .stoi _ _ _ => 0xAD
  | .stou _ _ _ => 0xAE
  | .stoui _ _ _ => 0xAF
  | .stsf _ _ _ => 0xB0
  | .stsfi _ _ _ => 0xB1
  | .stht _ _ _ => 0xB2
  | .sthti _ _ _ => 0xB3
  | .stco _ _ _ => 0xB4
  | .stcoi _ _ _ => 0xB5
  | .stunc => 0xB6
  | .stunci => 0xB7
  | .syncd => 0xB8
  | .syncdi => 0xB9
  | .prest => 0xBA
  | .presti => 0xBB
  | .syncid => 0xBC
  | .syncidi => 0xBD
  | .call _ _ _ => 0xBE
  | .calli _ _ _ => 0xBF
  | .or _ _ _ => 0xC0
  | .ori _ _ _ => 0xC1
  | .orn _ _ _ => 0xC2
  | .orni _ _ _ => 0xC3
  | .nor _ _ _ => 0xC4
  | .nori _ _ _ => 0xC5
  | .xor _ _ _ => 0xC6
  | .xori _ _ _ => 0xC7
  | .and _ _ _ => 0xC8
  | .andi _ _ _ => 0xC9
  | .andn _ _ _ => 0xCA
  | .andni _ _ _ => 0xCB
  | .nand _ _ _ => 0xCC
  | .nandi _ _ _ => 0xCD
  | .nxor _ _ _ => 0xCE
  | .nxori _ _ _ => 0xCF
  | .bdif _ _ _ => 0xD0
  | .bdifi _ _ _ => 0xD1
  | .wdif _ _ _ => 0xD2
  | .wdifi _ _ _ => 0xD3
  | .tdif _ _ _ => 0xD4
  | .tdifi _ _ _ => 0xD5
  | .odif _ _ _ => 0xD6
  | .odifi _ _ _ => 0xD7
  | .mux _ _ _ => 0xD8
  | .muxi _ _ _ => 0xD9
  | .sadd _ _ _ => 0xDA
  | .saddi _ _ _ => 0xDB
  | .mor _ _ _ => 0xDC
  | .mori _ _ _ => 0xDD
  | .mxor _ _ _ => 0xDE
  | .mxori _ _ _ => 0xDF
  | .seth _ _ => 0xE0
  | .setmh _ _ => 0xE1
  | .setml _ _ => 0xE2
  | .setl _ _ => 0xE3
  | .inch _ _ => 0xE4
  | .incmh _ _ => 0xE5
  | .incml _ _ => 0xE6
  | .incl _ _ => 0xE7
  | .orh _ _ => 0xE8
  | .ormh _ _ => 0xE9
  | .orml _ _ => 0xEA
  | .orl _ _ => 0xEB
  | .andnh _ _ => 0xEC
  | .andnmh _ _ => 0xED
  | .andnml _ _ => 0xEE
  | .andnl _ _ => 0xEF
  | .jmp _ => 0xF0
  | .jmpb _ => 0xF1
  | .pushj => 0xF2
  | .pushjb => 0xF3
  | .geta _ _ => 0xF4
  | .getab _ _ => 0xF5
  | .put _ _ _ => 0xF6
  | .puti => 0xF7
  | .ret => 0xF8
  | .resume => 0xF9
  | .save => 0xFA
  | .unsave => 0xFB
  | .sync => 0xFC
  | .swym => 0xFD
  | .get _ _ _ => 0xFE
  | .trip => 0xFF

/-- The bytes X, Y, Z of an instruction (30_encoding.md R95 to R109); bytes that are never examined are encoded as 0
(log entry 18). -/
def Instr.operands (i : Instr) : Byte × Byte × Byte :=
  match i with
  | .trap x y z | .fcmp x y z | .feql x y z | .fadd x y z | .fix x y z | .fsub x y z | .fixu x y z
  | .flot x y z | .floti x y z | .flotu x y z | .flotui x y z | .sflot x y z | .sfloti x y z | .sflotu x y z
  | .sflotui x y z | .fmul x y z | .fdiv x y z | .fsqrt x y z | .frem x y z | .fint x y z | .mul x y z
  | .muli x y z | .mulu x y z | .mului x y z | .div x y z | .divi x y z | .divu x y z | .divui x y z
  | .add x y z | .addi x y z | .addu x y z | .addui x y z | .sub x y z | .subi x y z | .subu x y z
  | .subui x y z | .addu2 x y z | .addu2i x y z | .addu4 x y z | .addu4i x y z | .addu8 x y z | .addu8i x y z
  | .addu16 x y z | .addu16i x y z | .cmp x y z | .cmpi x y z | .cmpu x y z | .cmpui x y z | .neg x y z
  | .negi x y z | .negu x y z | .negui x y z | .sl x y z | .sli x y z | .slu x y z | .slui x y z | .sr x y z
  | .sri x y z | .sru x y z | .srui x y z | .csn x y z | .csni x y z | .csz x y z | .cszi x y z | .csp x y z
  | .cspi x y z | .csod x y z | .csodi x y z | .csnn x y z | .csnni x y z | .csnz x y z | .csnzi x y z
  | .csnp x y z | .csnpi x y z | .csev x y z | .csevi x y z | .zsn x y z | .zsni x y z | .zsz x y z
  | .zszi x y z | .zsp x y z | .zspi x y z | .zsod x y z | .zsodi x y z | .zsnn x y z | .zsnni x y z
  | .zsnz x y z | .zsnzi x y z | .zsnp x y z | .zsnpi x y z | .zsev x y z | .zsevi x y z | .ldb x y z
  | .ldbi x y z | .ldbu x y z | .ldbui x y z | .ldw x y z | .ldwi x y z | .ldwu x y z | .ldwui x y z
  | .ldt x y z | .ldti x y z | .ldtu x y z | .ldtui x y z | .ldo x y z | .ldoi x y z | .ldou x y z
  | .ldoui x y z | .ldsf x y z | .ldsfi x y z | .ldht x y z | .ldhti x y z | .go x y z | .goi x y z
  | .stb x y z | .stbi x y z | .stbu x y z | .stbui x y z | .stw x y z | .stwi x y z | .stwu x y z
  | .stwui x y z | .stt x y z | .stti x y z | .sttu x y z | .sttui x y z | .sto x y z | .stoi x y z
  | .stou x y z | .stoui x y z | .stsf x y z | .stsfi x y z | .stht x y z | .sthti x y z | .stco x y z
  | .stcoi x y z | .call x y z | .calli x y z | .or x y z | .ori x y z | .orn x y z | .orni x y z
  | .nor x y z | .nori x y z | .xor x y z | .xori x y z | .and x y z | .andi x y z | .andn x y z
  | .andni x y z | .nand x y z | .nandi x y z | .nxor x y z | .nxori x y z | .bdif x y z | .bdifi x y z
  | .wdif x y z | .wdifi x y z | .tdif x y z | .tdifi x y z | .odif x y z | .odifi x y z | .mux x y z
  | .muxi x y z | .sadd x y z | .saddi x y z | .mor x y z | .mori x y z | .mxor x y z | .mxori x y z
  | .put x y z | .get x y z => (x, y, z)
  | .bn x yz | .bnb x yz | .bz x yz | .bzb x yz | .bp x yz | .bpb x yz | .bod x yz | .bodb x yz | .bnn x yz
  | .bnnb x yz | .bnz x yz | .bnzb x yz | .bnp x yz | .bnpb x yz | .bev x yz | .bevb x yz | .pbn x yz
  | .pbnb x yz | .pbz x yz | .pbzb x yz | .pbp x yz | .pbpb x yz | .pbod x yz | .pbodb x yz | .pbnn x yz
  | .pbnnb x yz | .pbnz x yz | .pbnzb x yz | .pbnp x yz | .pbnpb x yz | .pbev x yz | .pbevb x yz | .seth x yz
  | .setmh x yz | .setml x yz | .setl x yz | .inch x yz | .incmh x yz | .incml x yz | .incl x yz | .orh x yz
  | .ormh x yz | .orml x yz | .orl x yz | .andnh x yz | .andnmh x yz | .andnml x yz | .andnl x yz
  | .geta x yz | .getab x yz => (x, yz.extractLsb' 8 8, yz.extractLsb' 0 8)
  | .jmp xyz | .jmpb xyz =>
    (xyz.extractLsb' 16 8, xyz.extractLsb' 8 8, xyz.extractLsb' 0 8)
  | .funord | .fcmpe | .fune | .feqle | .cswap | .cswapi | .ldunc | .ldunci | .ldvts | .ldvtsi | .preld
  | .preldi | .prego | .pregoi | .stunc | .stunci | .syncd | .syncdi | .prest | .presti | .syncid | .syncidi
  | .pushj | .pushjb | .puti | .ret | .resume | .save | .unsave | .sync | .swym | .trip => (0, 0, 0)

/-- The four bytes of an instruction in rising address order (30_encoding.md R91). -/
def encode (i : Instr) : List Byte :=
  [i.opcode, i.operands.1, i.operands.2.1, i.operands.2.2]

/-- The instruction word OP * 2^24 + X * 2^16 + Y * 2^8 + Z (30_encoding.md R92). -/
def word (i : Instr) : Tetra :=
  i.opcode ++ i.operands.1 ++ i.operands.2.1 ++ i.operands.2.2

/-- The four bytes of a word in rising address order (30_encoding.md R92, 20_memory.md R63). -/
def wordBytes (w : Nat) : List Byte :=
  [BitVec.ofNat 8 (w / 2 ^ 24), BitVec.ofNat 8 (w / 2 ^ 16), BitVec.ofNat 8 (w / 2 ^ 8), BitVec.ofNat 8 w]

/-- The instruction the decoder reads from the word w, whose low nbits bits are given and whose other bits are 0. -/
def decodeTableWord (nbits w : Nat) : Option Instr :=
  match decode (wordBytes (w % 2 ^ nbits)) with
  | .ok (i, _) => some i
  | .error _ => none

end Sys2Proof
end

