-- ==== Sys2Proof/Machine/State.lean ====
section
/-! DEFINITION. The machine's state as plain data (spec/10_state.md R20), the launch parameters of a run
(70_reset_and_hazards.md R501), the faults and unmodelled points (60_exceptions.md R471), and the launch state
State.reset. -/

namespace Sys2Proof.Machine

/-- Memory: the listed (address, byte) pairs, addresses strictly rising, no entry equal to what an unlisted
address reads as (20_memory.md R60; the canonical form is `Memory.wf` in Ops.lean). -/
abbrev Memory := List Host.Cell

/-- The kind of a memory access, as MemoryFault reports it (20_memory.md R67). -/
inductive AccessKind
  | read | write | fetch
  deriving DecidableEq, Repr, Inhabited

/-- The eight arithmetic events in the order of 10_state.md R27: integer divide check, integer overflow,
float-to-fix overflow, invalid, floating overflow, floating underflow, floating division by zero, inexact. -/
inductive Event
  | D | V | W | I | O | U | Z | X
  deriving DecidableEq, Repr, Inhabited

/-- A stretch of existing addresses base .. base + size - 1 with its permissions (20_memory.md R67; DESIGN CHOICE:
the spec's `Mapped` is any function of the address, the model's is a finite list of such stretches, safe: log entry 5). -/
structure Region where
  base : Nat
  size : Nat
  read : Bool
  write : Bool
  execute : Bool
  deriving DecidableEq, Repr, Inhabited

/-- The two values of the parameter MISALIGN (20_memory.md R66). -/
inductive Misalign
  | fault | truncate
  deriving DecidableEq, Repr, Inhabited

/-- A supplied OS_TRAP (49_system.md R452): the function numbers that may end the run. What the functions do is
`Config.osTrap` (log entry 7). -/
structure OsTrap where
  mayEnd : List Byte
  deriving DecidableEq, Repr, Inhabited

/-- The launch parameters that stay fixed for a run (00_scope.md R9): Mapped, MISALIGN, and whether OS_TRAP and
CALL_LINKAGE are supplied. -/
structure Launch where
  mapped : List Region
  misalign : Misalign
  osTrap : Option OsTrap
  callLinkage : Bool
  deriving DecidableEq, Repr, Inhabited

/-- The whole state (10_state.md R20), the launch parameters of the run beside it, and the model's own `draws`.
`locals` is L[0] .. L[255] (R22), `globals` is G[32] .. G[255] (R23), `specials` is g[0] .. g[31] = G[0] .. G[31]
(R26), `linkage` is the state of its own that CALL_LINKAGE may bring (R20), `draws` counts the free values that
have been drawn (00_scope.md R14; log entry 11). -/
structure State where
  locals : Vector Octa 256
  globals : Vector Octa 224
  specials : Vector Octa 32
  pc : Octa
  memory : Memory
  launch : Launch
  linkage : List Octa
  draws : Nat
  deriving DecidableEq, Repr, Inhabited

/-- The six faults of 60_exceptions.md R471, and the end of a run by an operating-system function
(70_reset_and_hazards.md R510 c). Each ends the run. -/
inductive Fault
  /-- Raised by instruction fetch at a pc that is not a multiple of 4 (20_memory.md R77). Safe. -/
  | misalignedFetch (pc : Octa)
  /-- Raised by fetch, loads and stores when a byte of the access lacks the permission (20_memory.md R67). Safe. -/
  | memoryFault (addr : Octa) (n : Nat) (kind : AccessKind)
  /-- Raised by loads and stores whose address is not a multiple of n under MISALIGN = fault (20_memory.md R66). Safe. -/
  | misalignedAccess (addr : Octa) (n : Nat)
  /-- Raised by the 30 opcodes of status N (30_encoding.md R114). Safe. -/
  | unimplementedInstruction (word : Tetra)
  /-- Raised for a non-zero byte that is no operand and for an operand out of range (30_encoding.md R115,
  49_system.md R451, R453, R461). Safe. -/
  | illegalInstruction (word : Tetra)
  /-- Raised by an arithmetic event whose enable bit in rA is 1 (60_exceptions.md R472). Safe. -/
  | tripUnsupported (event : Event)
  /-- The end of the run by operating-system function `y` with an exit status (49_system.md R452); no fault of the
  machine, but an end of the run, which the step can say only here (log entry 8). The status is 64 bits wide, a width
  the spec does not give (DESIGN CHOICE: log entry 8). Safe. -/
  | runEnded (y : Byte) (status : Octa)
  deriving DecidableEq, Repr, Inhabited

/-- The unmodelled points of 60_exceptions.md R470 and R471, and the marker of an instruction without a meaning. -/
inductive Refusal
  /-- An instruction that has no meaning in the model; no arm of exec answers with it. Safe. -/
  | notModelled (mnemonic : String)
  /-- OsTrapUnmodelled(Y): TRAP in a run whose parameter OS_TRAP is not supplied (49_system.md R452). Safe. -/
  | osTrapUnmodelled (y : Byte)
  /-- LinkageUnmodelled(word): CALL, CALLI or RET in a run whose parameter CALL_LINKAGE is not supplied
  (48_control_transfer.md R432). Safe. -/
  | linkageUnmodelled (word : Tetra)
  deriving DecidableEq, Repr, Inhabited

/-- The 32 special registers at launch: rG holds 255, every other one 0 (DESIGN CHOICE, unsafe: log entries 1 and 3;
the spec makes InitRegs and InitRG open parameters, 70_reset_and_hazards.md R501). -/
def State.resetSpecials : Vector Octa 32 :=
  (Vector.replicate 32 0).set 19 255

/-- The launch parameters of State.reset: the whole address space mapped with every permission (DESIGN CHOICE,
unsafe: log entry 5), MISALIGN = fault, OS_TRAP and CALL_LINKAGE absent (the defaults of 92_eei_decisions.md). -/
def Launch.reset : Launch where
  mapped := [{ base := 0, size := 2 ^ 64, read := true, write := true, execute := true }]
  misalign := .fault
  osTrap := none
  callLinkage := false

/-- The launch state (70_reset_and_hazards.md R500, R501): every value the spec leaves to a launch parameter is the
one a log entry names (DESIGN CHOICE, unsafe: log entries 1 to 5, 7, 9, 11). -/
def State.reset : State where
  locals := Vector.replicate 256 0
  globals := Vector.replicate 224 0
  specials := State.resetSpecials
  pc := 0x1000
  memory := []
  launch := Launch.reset
  linkage := []
  draws := 0

end Sys2Proof.Machine
end

