-- ==== Sys2Proof/Config.lean ====
section
/-! DEFINITION. What the spec leaves open: the stream of free values (00_scope.md R14), the operating-system
functions behind TRAP (49_system.md R452) and the subroutine linkage behind CALL, CALLI, RET
(48_control_transfer.md R432). Every constant here has no body: nothing can be proved of its values. -/

namespace Sys2Proof

open Sys2Proof.Machine

/-- The n-th free value of a run: what the spec calls "any value" (00_scope.md R11, R14). Log entry 11. -/
opaque Config.draw : Nat → Octa

/-- What operating-system function y makes of the state (49_system.md R452). Log entry 7. -/
opaque Config.osTrap : Byte → State → State

/-- Whether operating-system function y ends the run in this state (49_system.md R452). Log entry 7. -/
opaque Config.osTrapEnds : Byte → State → Bool

/-- The exit status with which operating-system function y ends the run (49_system.md R452; log entry 7). Its 64 bits are
the model's: the spec gives the status no width (DESIGN CHOICE: log entry 8). -/
opaque Config.osExitStatus : Byte → State → Octa

/-- CALL_LINKAGE.call(state, X, A) of 48_control_transfer.md R432. Log entry 9. -/
opaque Config.callLinkage : Byte → Octa → State → State

/-- CALL_LINKAGE.ret(state) of 48_control_transfer.md R432. Log entry 9. -/
opaque Config.retLinkage : State → State

end Sys2Proof
end

