-- ==== Sys2Proof/Machine/Ops.lean ====
section
/-! DEFINITION. The named operations over registers, memory and arithmetic events: operand resolution
(10_state.md R24), MemRead and MemWrite (20_memory.md R64, R65), `raise` (60_exceptions.md R470), `event`
(R472), and the ways an instruction ends. -/

namespace Sys2Proof.Machine

/-- The outcome of one step (60_exceptions.md R470). -/
abbrev StepResult := Host.Outcome State Fault Refusal

/-! ## Raising a fault -/

/-- `raise F(info)` (60_exceptions.md R470): the run is over. This is all that taking an exception is on this
machine: no handler, no vector, no saved pc, no saved status (R470, R476, R485), hence no return either (R477). -/
def raise (f : Fault) : StepResult :=
  .fault f

/-! ## Special registers -/

/-- g[n], special register number n (10_state.md R26). -/
def special (s : State) (n : Fin 32) : Octa :=
  s.specials[n.val]

/-- `g[n] <- v`. -/
def setSpecial (s : State) (n : Fin 32) (v : Octa) : State :=
  { s with specials := s.specials.set n.val v }

/-- Number of rD, the high half of the dividend of DIVU (10_state.md R28). -/
def rD : Fin 32 := 1
/-- Number of rH, the high half of the product of MULU (10_state.md R28). -/
def rH : Fin 32 := 3
/-- Number of rM, the mask of MUX (10_state.md R28). -/
def rM : Fin 32 := 5
/-- Number of rR, the remainder of the divisions (10_state.md R28). -/
def rR : Fin 32 := 6
/-- Number of rG, the global threshold (10_state.md R29). -/
def rG : Fin 32 := 19
/-- Number of rA, the arithmetic status register (10_state.md R27). -/
def rA : Fin 32 := 21

/-! ## General registers -/

/-- A cell of the two register files: L[k], or G[k] held at index k - 32 (10_state.md R22, R23). -/
inductive RegRef
  | loc (k : Byte)
  | glob (i : Fin 224)
  deriving DecidableEq, Repr, Inhabited

/-- The cell that operand byte k names: G[k] if k >= u(rG), else L[k] (10_state.md R24). The test 32 <= k only
matters in states where rG is below 32, which no run reaches (R29; log entry 17). -/
def cellOf (s : State) (k : Byte) : RegRef :=
  if h : 32 ≤ k.toNat ∧ (special s rG).toNat ≤ k.toNat then
    .glob ⟨k.toNat - 32, by have := k.isLt; omega⟩
  else
    .loc k

/-- The content of a register cell. -/
def readRef (s : State) : RegRef → Octa
  | .loc k => s.locals[k.toNat]'k.isLt
  | .glob i => s.globals[i.val]

/-- A register cell takes a value. -/
def writeRef (s : State) (r : RegRef) (v : Octa) : State :=
  match r with
  | .loc k => { s with locals := s.locals.set k.toNat v k.isLt }
  | .glob i => { s with globals := s.globals.set i.val v }

/-- x[k]: the general register that operand byte k names (10_state.md R24). -/
def reg (s : State) (k : Byte) : Octa :=
  readRef s (cellOf s k)

/-- `x[k] <- v` (00_scope.md R11). -/
def setReg (s : State) (k : Byte) (v : Octa) : State :=
  writeRef s (cellOf s k) v

/-! ## Program counter -/

/-- `pc <- t` (10_state.md R30). -/
def setPc (s : State) (t : Octa) : State :=
  { s with pc := t }

/-- `pc <- (pc + 4) mod 2^64` (10_state.md R30, R31). -/
def advance (s : State) : State :=
  setPc s (s.pc + 4)

/-! ## Free values -/

/-- "any value" (00_scope.md R11): the next free value of the run (log entry 11). -/
def anyValue (s : State) : Octa :=
  Config.draw s.draws

/-- The state after one free value is drawn. -/
def drawn (s : State) : State :=
  { s with draws := s.draws + 1 }

/-! ## Memory -/

/-- What an address that the list does not hold reads as: 0 (DESIGN CHOICE, unsafe: log entry 4). -/
def unlistedByte : Byte := 0

/-- mem[a], one byte (20_memory.md R60). -/
def Memory.byteAt : Memory → Nat → Byte
  | [], _ => unlistedByte
  | (k, b) :: rest, a => if k = a then b else Memory.byteAt rest a

/-- `mem[a] <- v`, in the canonical form: a byte equal to what an unlisted address reads as is not listed. -/
def Memory.setByte : Memory → Nat → Byte → Memory
  | [], a, v => if v = unlistedByte then [] else [(a, v)]
  | (k, b) :: rest, a, v =>
    if a < k then
      if v = unlistedByte then (k, b) :: rest else (a, v) :: (k, b) :: rest
    else if k = a then
      if v = unlistedByte then rest else (a, v) :: rest
    else
      (k, b) :: Memory.setByte rest a v

/-- The canonical form: addresses strictly rising and below 2^64, no entry equal to what an unlisted address
reads as. -/
abbrev Memory.wf (m : Memory) : Prop :=
  m.Pairwise (fun c d => c.1 < d.1) ∧ ∀ c ∈ m, c.2 ≠ unlistedByte ∧ c.1 < 2 ^ 64

/-- The unsigned integer in the n bytes at a, the byte at the lowest address the most significant
(20_memory.md R63, R64). -/
def Memory.readNat (m : Memory) (a : Nat) : Nat → Nat
  | 0 => 0
  | n + 1 => Memory.readNat m a n * 256 + (Memory.byteAt m (a + n)).toNat

/-- The n bytes at a take v, the byte at the lowest address the most significant (20_memory.md R63, R65). -/
def Memory.writeNat (m : Memory) (a : Nat) : Nat → Nat → Memory
  | 0, _ => m
  | n + 1, v => Memory.setByte (Memory.writeNat m a n (v / 256)) (a + n) (BitVec.ofNat 8 v)

/-- Whether a region gives the permission that an access of this kind needs (20_memory.md R67). -/
def Region.permits (r : Region) : AccessKind → Bool
  | .read => r.read
  | .write => r.write
  | .fetch => r.execute

/-- Whether the byte at address a exists with the permission for this kind of access (20_memory.md R67). -/
def allowed (l : Launch) (kind : AccessKind) (a : Nat) : Bool :=
  l.mapped.any fun r => decide (r.base ≤ a) && decide (a < r.base + r.size) && r.permits kind

/-- Whether all n bytes from a on are allowed (20_memory.md R67). -/
def allAllowed (l : Launch) (kind : AccessKind) (a n : Nat) : Bool :=
  (List.range n).all fun i => allowed l kind (a + i)

/-- The alignment check of a data access (20_memory.md R66): the address to use, or MisalignedAccess. -/
def alignedAddress (m : Misalign) (A : Octa) (n : Nat) : Except Fault Octa :=
  if A.toNat % n = 0 then .ok A
  else
    match m with
    | .fault => .error (.misalignedAccess A n)
    | .truncate => .ok (A - BitVec.ofNat 64 (A.toNat % n))

/-- The two checks of a data access, alignment first, then the permission of every byte; the answer is the address
to use (20_memory.md R64, R65, R66, R67). -/
def dataAddress (s : State) (kind : AccessKind) (A : Octa) (n : Nat) : Except Fault Octa :=
  match alignedAddress s.launch.misalign A n with
  | .error f => .error f
  | .ok B => if allAllowed s.launch kind B.toNat n then .ok B else .error (.memoryFault B n kind)

/-- MemRead(A, n) (20_memory.md R64). -/
def memRead (s : State) (A : Octa) (n : Nat) : Except Fault Nat :=
  match dataAddress s .read A n with
  | .error f => .error f
  | .ok B => .ok (Memory.readNat s.memory B.toNat n)

/-- MemWrite(A, n, v) (20_memory.md R65). -/
def memWrite (s : State) (A : Octa) (n : Nat) (v : Nat) : Except Fault State :=
  match dataAddress s .write A n with
  | .error f => .error f
  | .ok B => .ok { s with memory := Memory.writeNat s.memory B.toNat n v }

/-! ## Arithmetic events -/

/-- The position of the event's bit in rA; its enable bit is 8 higher (60_exceptions.md R472, 10_state.md R27). -/
def Event.bit : Event → Nat
  | .D => 7 | .V => 6 | .W => 5 | .I => 4 | .O => 3 | .U => 2 | .Z => 1 | .X => 0

/-- Whether the event's enable bit in rA is 1. -/
def enabled (s : State) (e : Event) : Bool :=
  (special s rA).getLsbD (e.bit + 8)

/-- A non-enabled event: its event bit becomes 1 or is left unchanged, as a free value says (60_exceptions.md R472;
log entry 12). -/
def noteEvent (s : State) (e : Event) : State :=
  let v := special s rA
  setSpecial (drawn s) rA (if (anyValue s).getLsbD 0 then v ||| BitVec.twoPow 64 e.bit else v)

/-- `event(E)` (60_exceptions.md R472). -/
def event (s : State) (e : Event) : Except Fault State :=
  if enabled s e then .error (.tripUnsupported e) else .ok (noteEvent s e)

/-- The events of one instruction, handed over in the order D, V, W, I, O, U, Z, X (60_exceptions.md R472, R474). -/
def raiseEvents (s : State) : List Event → Except Fault State
  | [] => .ok s
  | e :: es =>
    match event s e with
    | .error f => .error f
    | .ok t => raiseEvents t es

/-! ## How an instruction ends -/

/-- The next state is s with the pc moved past the instruction. -/
def next (s : State) : StepResult :=
  .next (advance s)

/-- The instruction's events, then the next instruction; or the first enabled event's fault. -/
def finish (s : State) (es : List Event) : StepResult :=
  match raiseEvents s es with
  | .error f => raise f
  | .ok t => next t

/-- `x[X] <- v; pc <- pc + 4`. -/
def result (s : State) (x : Byte) (v : Octa) : StepResult :=
  next (setReg s x v)

/-- `x[X] <- v`, the events es, `pc <- pc + 4`. -/
def resultWith (s : State) (x : Byte) (v : Octa) (es : List Event) : StepResult :=
  finish (setReg s x v) es

/-- `x[X] <- any value`, the events es, `pc <- pc + 4`; `shape` says which values are admitted (a quiet NaN). -/
def resultAny (s : State) (x : Byte) (shape : Octa → Octa) (es : List Event) : StepResult :=
  resultWith (drawn s) x (shape (anyValue s)) es

/-- A load of n bytes: one MemRead, then x[X] takes f of the bytes (44_loads.md R291, R293). -/
def load (s : State) (x : Byte) (A : Octa) (n : Nat) (f : Nat → Octa) : StepResult :=
  match memRead s A n with
  | .error e => raise e
  | .ok v => result s x (f v)

/-- A store of n bytes: one MemWrite, then the events (45_stores.md R331, R332; 60_exceptions.md R474). -/
def store (s : State) (A : Octa) (n : Nat) (v : Nat) (es : List Event) : StepResult :=
  match memWrite s A n v with
  | .error e => raise e
  | .ok t => finish t es

/-- A transfer of control (10_state.md R30, 48_control_transfer.md R431). -/
def jump (s : State) (t : Octa) : StepResult :=
  .next (setPc s t)

/-! ## The host behind TRAP, CALL, CALLI, RET -/

/-- The invariant of every run: memory in canonical form (20_memory.md R60), rG in 32 .. 255 (10_state.md R29),
bits 63:18 of rA zero (10_state.md R27). -/
abbrev legal (s : State) : Prop :=
  Memory.wf s.memory ∧ 32 ≤ (special s rG).toNat ∧ (special s rG).toNat ≤ 255 ∧ (special s rA).toNat < 2 ^ 18

/-- The state a host function returns. The spec guarantees of every state that it is legal (10_state.md R27, R29) and
that MISALIGN and the parameters themselves stay fixed for the run (70_reset_and_hazards.md R501): a result of the
opaque function that keeps this is taken as it is, any other stands for no function the spec admits and the state
before, moved past the instruction, stands in its place (DEDUCED, safe: log entry 10). -/
def hostResult (s t : State) : State :=
  let u := { t with launch := { s.launch with mapped := t.launch.mapped }, draws := s.draws + 1 }
  if legal u then u else advance { s with draws := s.draws + 1 }

/-- The state that CALL_LINKAGE returns: as `hostResult`, and Mapped does not change either (20_memory.md R67). -/
def linkageResult (s t : State) : State :=
  { hostResult s t with launch := s.launch }

end Sys2Proof.Machine
end

