-- ==== Sys2Proof/Machine/Flags.lean ====
section
/-! DEFINITION. The fields of rA (10_state.md R27), the conditions under which the integer instructions and stores
raise an event (60_exceptions.md R473), and the eight conditions that branches and conditional sets test
(42_branches.md R210). The machine has no condition codes (10_state.md R32). -/

namespace Sys2Proof.Machine

/-- The four rounding modes (40_floating_point.md R131): to nearest, toward zero, toward plus infinity, toward minus
infinity. -/
inductive Rounding
  | near | off | up | down
  deriving DecidableEq, Repr, Inhabited

/-- The rounding mode that a two-bit field value names (40_floating_point.md R131). -/
def Rounding.ofField : Nat → Rounding
  | 0 => .near
  | 1 => .off
  | 2 => .up
  | _ => .down

/-- rm = bits 17:16 of rA (40_floating_point.md R131). -/
def roundingMode (s : State) : Rounding :=
  Rounding.ofField ((special s rA).extractLsb' 16 2).toNat

/-- The exact signed integer r does not fit in n bits. -/
def overflows (n : Nat) (r : Int) : Bool :=
  decide (r < -(2 ^ (n - 1))) || decide (2 ^ (n - 1) - 1 < r)

/-- The event V when the exact signed result r is outside -2^63 .. 2^63 - 1 (60_exceptions.md R473). -/
def overflowEvents (r : Int) : List Event :=
  if overflows 64 r then [.V] else []

/-- The event V of the signed stores of n bytes: s(v) does not fit in 8n bits (45_stores.md R332). -/
def narrowEvents (n : Nat) (v : Octa) : List Event :=
  if overflows (8 * n) v.toInt then [.V] else []

/-- The eight conditions (42_branches.md R210). -/
inductive Cond
  | neg | zero | pos | odd | nonNeg | nonZero | nonPos | even
  deriving DecidableEq, Repr, Inhabited

/-- The condition's predicate on a register value (42_branches.md R210). -/
def Cond.holds : Cond → Octa → Bool
  | .neg, v => decide (v.toInt < 0)
  | .zero, v => decide (v = 0)
  | .pos, v => decide (0 < v.toInt)
  | .odd, v => v.getLsbD 0
  | .nonNeg, v => decide (0 ≤ v.toInt)
  | .nonZero, v => decide (v ≠ 0)
  | .nonPos, v => decide (v.toInt ≤ 0)
  | .even, v => !v.getLsbD 0

end Sys2Proof.Machine
end

