-- ==== Sys2Proof/Machine/Operands.lean ====
section
/-! DEFINITION. The operand forms: immediates (30_encoding.md R93), effective addresses (20_memory.md R62), relative
targets (30_encoding.md R102, R106, R110), the wyde operand (47_wyde_immediate.md R410). -/

namespace Sys2Proof.Machine

/-- zext_64(b): an immediate byte as a 64-bit operand (30_encoding.md R93). -/
def imm (b : Byte) : Octa :=
  b.setWidth 64

/-- Register plus register: A = (u(x[Y]) + u(x[Z])) mod 2^64 (20_memory.md R62, 44_loads.md R290). -/
def addrReg (s : State) (y z : Byte) : Octa :=
  reg s y + reg s z

/-- Register plus byte: A = (u(x[Y]) + Z) mod 2^64 (20_memory.md R62, 44_loads.md R290). -/
def addrImm (s : State) (y z : Byte) : Octa :=
  reg s y + imm z

/-- The forward target pc + 4 * YZ, pc the address of the instruction itself (30_encoding.md R102,
42_branches.md R211). -/
def forward (s : State) (yz : Wyde) : Octa :=
  s.pc + 4 * yz.setWidth 64

/-- The backward target pc + 4 * (YZ - 65536) (30_encoding.md R110, 42_branches.md R211). -/
def backward (s : State) (yz : Wyde) : Octa :=
  s.pc + 4 * yz.setWidth 64 - 262144

/-- The long forward target pc + 4 * XYZ (30_encoding.md R106, 48_control_transfer.md R437). -/
def longForward (s : State) (xyz : BitVec 24) : Octa :=
  s.pc + 4 * xyz.setWidth 64

/-- The long backward target pc + 4 * XYZ - 2^26 (30_encoding.md R110, 48_control_transfer.md R438). -/
def longBackward (s : State) (xyz : BitVec 24) : Octa :=
  s.pc + 4 * xyz.setWidth 64 - 67108864

/-- w = YZ * 2^sh, the wyde operand at its place; sh is 48, 32, 16, 0 for H, MH, ML, L (47_wyde_immediate.md R410). -/
def wydeAt (sh : Nat) (yz : Wyde) : Octa :=
  yz.setWidth 64 <<< sh

end Sys2Proof.Machine
end

