-- ==== Sys2Proof/Machine/Bitwise.lean ====
section
/-! DEFINITION. Bitwise operations, lanes, MUX, SADD, bit matrices: opcodes 0xC0 .. 0xDF (spec/46_bitwise.md). -/

namespace Sys2Proof.Machine

/-- The number whose bit i is f i, for i below n. -/
def bitsOf (f : Nat → Bool) : Nat → Nat
  | 0 => 0
  | n + 1 => bitsOf f n + if f n then 2 ^ n else 0

/-- Lane i of width w of v, unsigned (46_bitwise.md R372). -/
def lane (w : Nat) (v : Octa) (i : Nat) : Nat :=
  v.toNat / 2 ^ (w * i) % 2 ^ w

/-- The saturating differences of the n lowest lanes of width w, put together (46_bitwise.md R372). -/
def laneDifferences (w : Nat) (y z : Octa) : Nat → Nat
  | 0 => 0
  | n + 1 => laneDifferences w y z n + (lane w y n - lane w z n) * 2 ^ (w * n)

/-- BDIF, WDIF, TDIF: n lanes of width w (46_bitwise.md R390, R392, R394). -/
def difference (w n : Nat) (y z : Octa) : Octa :=
  BitVec.ofNat 64 (laneDifferences w y z n)

/-- ODIF (46_bitwise.md R396). -/
def octaDifference (y z : Octa) : Octa :=
  if z.toNat < y.toNat then y - z else 0

/-- The number of ones among the n lowest bits of v (46_bitwise.md R400). -/
def popcount (v : Octa) : Nat → Nat
  | 0 => 0
  | n + 1 => popcount v n + if v.getLsbD n then 1 else 0

/-- The products of row r of z with column c of y, one for each k = 0 .. 7 (46_bitwise.md R373). -/
def matrixProducts (y z : Octa) (r c : Nat) : List Bool :=
  (List.range 8).map fun k => z.getLsbD (8 * r + k) && y.getLsbD (8 * k + c)

/-- The octa whose bit 8r + c is `combine` of the products of row r of z and column c of y (46_bitwise.md R373). -/
def matrixProduct (combine : List Bool → Bool) (y z : Octa) : Octa :=
  BitVec.ofNat 64 (bitsOf (fun i => combine (matrixProducts y z (i / 8) (i % 8))) 64)

/-- Exclusive or of a list of bits. -/
def xorAll (l : List Bool) : Bool :=
  l.foldl xor false

/-- Inclusive or of a list of bits. -/
def orAll (l : List Bool) : Bool :=
  l.foldl or false

/-- MUX: the bits of y where m is 1, of z where m is 0 (46_bitwise.md R398). -/
def multiplex (m y z : Octa) : Octa :=
  (y &&& m) ||| (z &&& ~~~m)

/-- `OR`: 46_bitwise.md R374. -/
def execOr (x y z : Byte) (s : State) : StepResult :=
  result s x ((reg s y) ||| (reg s z))

/-- `ORI`: 46_bitwise.md R375. -/
def execOri (x y z : Byte) (s : State) : StepResult :=
  result s x ((reg s y) ||| (imm z))

/-- `ORN`: 46_bitwise.md R376. -/
def execOrn (x y z : Byte) (s : State) : StepResult :=
  result s x ((reg s y) ||| ~~~(reg s z))

/-- `ORNI`: 46_bitwise.md R377. -/
def execOrni (x y z : Byte) (s : State) : StepResult :=
  result s x ((reg s y) ||| ~~~(imm z))

/-- `NOR`: 46_bitwise.md R378. -/
def execNor (x y z : Byte) (s : State) : StepResult :=
  result s x (~~~((reg s y) ||| (reg s z)))

/-- `NORI`: 46_bitwise.md R379. -/
def execNori (x y z : Byte) (s : State) : StepResult :=
  result s x (~~~((reg s y) ||| (imm z)))

/-- `XOR`: 46_bitwise.md R380. -/
def execXor (x y z : Byte) (s : State) : StepResult :=
  result s x ((reg s y) ^^^ (reg s z))

/-- `XORI`: 46_bitwise.md R381. -/
def execXori (x y z : Byte) (s : State) : StepResult :=
  result s x ((reg s y) ^^^ (imm z))

/-- `AND`: 46_bitwise.md R382. -/
def execAnd (x y z : Byte) (s : State) : StepResult :=
  result s x ((reg s y) &&& (reg s z))

/-- `ANDI`: 46_bitwise.md R383. -/
def execAndi (x y z : Byte) (s : State) : StepResult :=
  result s x ((reg s y) &&& (imm z))

/-- `ANDN`: 46_bitwise.md R384. -/
def execAndn (x y z : Byte) (s : State) : StepResult :=
  result s x ((reg s y) &&& ~~~(reg s z))

/-- `ANDNI`: 46_bitwise.md R385. -/
def execAndni (x y z : Byte) (s : State) : StepResult :=
  result s x ((reg s y) &&& ~~~(imm z))

/-- `NAND`: 46_bitwise.md R386. -/
def execNand (x y z : Byte) (s : State) : StepResult :=
  result s x (~~~((reg s y) &&& (reg s z)))

/-- `NANDI`: 46_bitwise.md R387. -/
def execNandi (x y z : Byte) (s : State) : StepResult :=
  result s x (~~~((reg s y) &&& (imm z)))

/-- `NXOR`: 46_bitwise.md R388. -/
def execNxor (x y z : Byte) (s : State) : StepResult :=
  result s x (~~~((reg s y) ^^^ (reg s z)))

/-- `NXORI`: 46_bitwise.md R389. -/
def execNxori (x y z : Byte) (s : State) : StepResult :=
  result s x (~~~((reg s y) ^^^ (imm z)))

/-- `BDIF`: 46_bitwise.md R390. -/
def execBdif (x y z : Byte) (s : State) : StepResult :=
  result s x (difference 8 8 (reg s y) (reg s z))

/-- `BDIFI`: 46_bitwise.md R391. -/
def execBdifi (x y z : Byte) (s : State) : StepResult :=
  result s x (difference 8 8 (reg s y) (imm z))

/-- `WDIF`: 46_bitwise.md R392. -/
def execWdif (x y z : Byte) (s : State) : StepResult :=
  result s x (difference 16 4 (reg s y) (reg s z))

/-- `WDIFI`: 46_bitwise.md R393. -/
def execWdifi (x y z : Byte) (s : State) : StepResult :=
  result s x (difference 16 4 (reg s y) (imm z))

/-- `TDIF`: 46_bitwise.md R394. -/
def execTdif (x y z : Byte) (s : State) : StepResult :=
  result s x (difference 32 2 (reg s y) (reg s z))

/-- `TDIFI`: 46_bitwise.md R395. -/
def execTdifi (x y z : Byte) (s : State) : StepResult :=
  result s x (difference 32 2 (reg s y) (imm z))

/-- `ODIF`: 46_bitwise.md R396. -/
def execOdif (x y z : Byte) (s : State) : StepResult :=
  result s x (octaDifference (reg s y) (reg s z))

/-- `ODIFI`: 46_bitwise.md R397. -/
def execOdifi (x y z : Byte) (s : State) : StepResult :=
  result s x (octaDifference (reg s y) (imm z))

/-- `MUX`: 46_bitwise.md R398. -/
def execMux (x y z : Byte) (s : State) : StepResult :=
  result s x (multiplex (special s rM) (reg s y) (reg s z))

/-- `MUXI`: 46_bitwise.md R399. -/
def execMuxi (x y z : Byte) (s : State) : StepResult :=
  result s x (multiplex (special s rM) (reg s y) (imm z))

/-- `SADD`: 46_bitwise.md R400. -/
def execSadd (x y z : Byte) (s : State) : StepResult :=
  result s x (BitVec.ofNat 64 (popcount ((reg s y) &&& ~~~(reg s z)) 64))

/-- `SADDI`: 46_bitwise.md R401. -/
def execSaddi (x y z : Byte) (s : State) : StepResult :=
  result s x (BitVec.ofNat 64 (popcount ((reg s y) &&& ~~~(imm z)) 64))

/-- `MOR`: 46_bitwise.md R402. -/
def execMor (x y z : Byte) (s : State) : StepResult :=
  result s x (matrixProduct orAll (reg s y) (reg s z))

/-- `MORI`: 46_bitwise.md R403. -/
def execMori (x y z : Byte) (s : State) : StepResult :=
  result s x (matrixProduct orAll (reg s y) (imm z))

/-- `MXOR`: 46_bitwise.md R404. -/
def execMxor (x y z : Byte) (s : State) : StepResult :=
  result s x (matrixProduct xorAll (reg s y) (reg s z))

/-- `MXORI`: 46_bitwise.md R405. -/
def execMxori (x y z : Byte) (s : State) : StepResult :=
  result s x (matrixProduct xorAll (reg s y) (imm z))

end Sys2Proof.Machine
end

