-- ==== Sys2Proof/Machine/Branches.lean ====
section
/-! DEFINITION. Branches and probable branches: opcodes 0x40 .. 0x5F (spec/42_branches.md). A probable branch is the branch sixteen opcodes below it (R212). -/

namespace Sys2Proof.Machine

/-- A branch: to the target when the condition holds of x[X], else to pc + 4 (42_branches.md R213). -/
def branch (s : State) (c : Cond) (x : Byte) (target : Octa) : StepResult :=
  if c.holds (reg s x) then jump s target else next s

/-- `BN`: 42_branches.md R214. -/
def execBn (x : Byte) (yz : Wyde) (s : State) : StepResult :=
  branch s .neg x (forward s yz)

/-- `BNB`: 42_branches.md R215. -/
def execBnb (x : Byte) (yz : Wyde) (s : State) : StepResult :=
  branch s .neg x (backward s yz)

/-- `BZ`: 42_branches.md R216. -/
def execBz (x : Byte) (yz : Wyde) (s : State) : StepResult :=
  branch s .zero x (forward s yz)

/-- `BZB`: 42_branches.md R217. -/
def execBzb (x : Byte) (yz : Wyde) (s : State) : StepResult :=
  branch s .zero x (backward s yz)

/-- `BP`: 42_branches.md R218. -/
def execBp (x : Byte) (yz : Wyde) (s : State) : StepResult :=
  branch s .pos x (forward s yz)

/-- `BPB`: 42_branches.md R219. -/
def execBpb (x : Byte) (yz : Wyde) (s : State) : StepResult :=
  branch s .pos x (backward s yz)

/-- `BOD`: 42_branches.md R220. -/
def execBod (x : Byte) (yz : Wyde) (s : State) : StepResult :=
  branch s .odd x (forward s yz)

/-- `BODB`: 42_branches.md R221. -/
def execBodb (x : Byte) (yz : Wyde) (s : State) : StepResult :=
  branch s .odd x (backward s yz)

/-- `BNN`: 42_branches.md R222. -/
def execBnn (x : Byte) (yz : Wyde) (s : State) : StepResult :=
  branch s .nonNeg x (forward s yz)

/-- `BNNB`: 42_branches.md R223. -/
def execBnnb (x : Byte) (yz : Wyde) (s : State) : StepResult :=
  branch s .nonNeg x (backward s yz)

/-- `BNZ`: 42_branches.md R224. -/
def execBnz (x : Byte) (yz : Wyde) (s : State) : StepResult :=
  branch s .nonZero x (forward s yz)

/-- `BNZB`: 42_branches.md R225. -/
def execBnzb (x : Byte) (yz : Wyde) (s : State) : StepResult :=
  branch s .nonZero x (backward s yz)

/-- `BNP`: 42_branches.md R226. -/
def execBnp (x : Byte) (yz : Wyde) (s : State) : StepResult :=
  branch s .nonPos x (forward s yz)

/-- `BNPB`: 42_branches.md R227. -/
def execBnpb (x : Byte) (yz : Wyde) (s : State) : StepResult :=
  branch s .nonPos x (backward s yz)

/-- `BEV`: 42_branches.md R228. -/
def execBev (x : Byte) (yz : Wyde) (s : State) : StepResult :=
  branch s .even x (forward s yz)

/-- `BEVB`: 42_branches.md R229. -/
def execBevb (x : Byte) (yz : Wyde) (s : State) : StepResult :=
  branch s .even x (backward s yz)

/-- `PBN`: 42_branches.md R230. -/
def execPbn (x : Byte) (yz : Wyde) (s : State) : StepResult :=
  branch s .neg x (forward s yz)

/-- `PBNB`: 42_branches.md R231. -/
def execPbnb (x : Byte) (yz : Wyde) (s : State) : StepResult :=
  branch s .neg x (backward s yz)

/-- `PBZ`: 42_branches.md R232. -/
def execPbz (x : Byte) (yz : Wyde) (s : State) : StepResult :=
  branch s .zero x (forward s yz)

/-- `PBZB`: 42_branches.md R233. -/
def execPbzb (x : Byte) (yz : Wyde) (s : State) : StepResult :=
  branch s .zero x (backward s yz)

/-- `PBP`: 42_branches.md R234. -/
def execPbp (x : Byte) (yz : Wyde) (s : State) : StepResult :=
  branch s .pos x (forward s yz)

/-- `PBPB`: 42_branches.md R235. -/
def execPbpb (x : Byte) (yz : Wyde) (s : State) : StepResult :=
  branch s .pos x (backward s yz)

/-- `PBOD`: 42_branches.md R236. -/
def execPbod (x : Byte) (yz : Wyde) (s : State) : StepResult :=
  branch s .odd x (forward s yz)

/-- `PBODB`: 42_branches.md R237. -/
def execPbodb (x : Byte) (yz : Wyde) (s : State) : StepResult :=
  branch s .odd x (backward s yz)

/-- `PBNN`: 42_branches.md R238. -/
def execPbnn (x : Byte) (yz : Wyde) (s : State) : StepResult :=
  branch s .nonNeg x (forward s yz)

/-- `PBNNB`: 42_branches.md R239. -/
def execPbnnb (x : Byte) (yz : Wyde) (s : State) : StepResult :=
  branch s .nonNeg x (backward s yz)

/-- `PBNZ`: 42_branches.md R240. -/
def execPbnz (x : Byte) (yz : Wyde) (s : State) : StepResult :=
  branch s .nonZero x (forward s yz)

/-- `PBNZB`: 42_branches.md R241. -/
def execPbnzb (x : Byte) (yz : Wyde) (s : State) : StepResult :=
  branch s .nonZero x (backward s yz)

/-- `PBNP`: 42_branches.md R242. -/
def execPbnp (x : Byte) (yz : Wyde) (s : State) : StepResult :=
  branch s .nonPos x (forward s yz)

/-- `PBNPB`: 42_branches.md R243. -/
def execPbnpb (x : Byte) (yz : Wyde) (s : State) : StepResult :=
  branch s .nonPos x (backward s yz)

/-- `PBEV`: 42_branches.md R244. -/
def execPbev (x : Byte) (yz : Wyde) (s : State) : StepResult :=
  branch s .even x (forward s yz)

/-- `PBEVB`: 42_branches.md R245. -/
def execPbevb (x : Byte) (yz : Wyde) (s : State) : StepResult :=
  branch s .even x (backward s yz)

end Sys2Proof.Machine
end

