-- ==== Sys2Proof/Machine/Conditional.lean ====
section
/-! DEFINITION. Conditional set, zero or set: opcodes 0x60 .. 0x7F (spec/43_conditional.md). -/

namespace Sys2Proof.Machine

/-- Conditional set: x[X] takes v when the condition holds of y, and is not written otherwise (43_conditional.md
R251, R252). -/
def condSet (s : State) (c : Cond) (x : Byte) (y v : Octa) : StepResult :=
  if c.holds y then result s x v else next s

/-- Zero or set: x[X] takes v when the condition holds of y, and 0 otherwise (43_conditional.md R251). -/
def zeroOrSet (s : State) (c : Cond) (x : Byte) (y v : Octa) : StepResult :=
  result s x (if c.holds y then v else 0)

/-- `CSN`: 43_conditional.md R253. -/
def execCsn (x y z : Byte) (s : State) : StepResult :=
  condSet s .neg x (reg s y) (reg s z)

/-- `CSNI`: 43_conditional.md R254. -/
def execCsni (x y z : Byte) (s : State) : StepResult :=
  condSet s .neg x (reg s y) (imm z)

/-- `CSZ`: 43_conditional.md R255. -/
def execCsz (x y z : Byte) (s : State) : StepResult :=
  condSet s .zero x (reg s y) (reg s z)

/-- `CSZI`: 43_conditional.md R256. -/
def execCszi (x y z : Byte) (s : State) : StepResult :=
  condSet s .zero x (reg s y) (imm z)

/-- `CSP`: 43_conditional.md R257. -/
def execCsp (x y z : Byte) (s : State) : StepResult :=
  condSet s .pos x (reg s y) (reg s z)

/-- `CSPI`: 43_conditional.md R258. -/
def execCspi (x y z : Byte) (s : State) : StepResult :=
  condSet s .pos x (reg s y) (imm z)

/-- `CSOD`: 43_conditional.md R259. -/
def execCsod (x y z : Byte) (s : State) : StepResult :=
  condSet s .odd x (reg s y) (reg s z)

/-- `CSODI`: 43_conditional.md R260. -/
def execCsodi (x y z : Byte) (s : State) : StepResult :=
  condSet s .odd x (reg s y) (imm z)

/-- `CSNN`: 43_conditional.md R261. -/
def execCsnn (x y z : Byte) (s : State) : StepResult :=
  condSet s .nonNeg x (reg s y) (reg s z)

/-- `CSNNI`: 43_conditional.md R262. -/
def execCsnni (x y z : Byte) (s : State) : StepResult :=
  condSet s .nonNeg x (reg s y) (imm z)

/-- `CSNZ`: 43_conditional.md R263. -/
def execCsnz (x y z : Byte) (s : State) : StepResult :=
  condSet s .nonZero x (reg s y) (reg s z)

/-- `CSNZI`: 43_conditional.md R264. -/
def execCsnzi (x y z : Byte) (s : State) : StepResult :=
  condSet s .nonZero x (reg s y) (imm z)

/-- `CSNP`: 43_conditional.md R265. -/
def execCsnp (x y z : Byte) (s : State) : StepResult :=
  condSet s .nonPos x (reg s y) (reg s z)

/-- `CSNPI`: 43_conditional.md R266. -/
def execCsnpi (x y z : Byte) (s : State) : StepResult :=
  condSet s .nonPos x (reg s y) (imm z)

/-- `CSEV`: 43_conditional.md R267. -/
def execCsev (x y z : Byte) (s : State) : StepResult :=
  condSet s .even x (reg s y) (reg s z)

/-- `CSEVI`: 43_conditional.md R268. -/
def execCsevi (x y z : Byte) (s : State) : StepResult :=
  condSet s .even x (reg s y) (imm z)

/-- `ZSN`: 43_conditional.md R269. -/
def execZsn (x y z : Byte) (s : State) : StepResult :=
  zeroOrSet s .neg x (reg s y) (reg s z)

/-- `ZSNI`: 43_conditional.md R270. -/
def execZsni (x y z : Byte) (s : State) : StepResult :=
  zeroOrSet s .neg x (reg s y) (imm z)

/-- `ZSZ`: 43_conditional.md R271. -/
def execZsz (x y z : Byte) (s : State) : StepResult :=
  zeroOrSet s .zero x (reg s y) (reg s z)

/-- `ZSZI`: 43_conditional.md R272. -/
def execZszi (x y z : Byte) (s : State) : StepResult :=
  zeroOrSet s .zero x (reg s y) (imm z)

/-- `ZSP`: 43_conditional.md R273. -/
def execZsp (x y z : Byte) (s : State) : StepResult :=
  zeroOrSet s .pos x (reg s y) (reg s z)

/-- `ZSPI`: 43_conditional.md R274. -/
def execZspi (x y z : Byte) (s : State) : StepResult :=
  zeroOrSet s .pos x (reg s y) (imm z)

/-- `ZSOD`: 43_conditional.md R275. -/
def execZsod (x y z : Byte) (s : State) : StepResult :=
  zeroOrSet s .odd x (reg s y) (reg s z)

/-- `ZSODI`: 43_conditional.md R276. -/
def execZsodi (x y z : Byte) (s : State) : StepResult :=
  zeroOrSet s .odd x (reg s y) (imm z)

/-- `ZSNN`: 43_conditional.md R277. -/
def execZsnn (x y z : Byte) (s : State) : StepResult :=
  zeroOrSet s .nonNeg x (reg s y) (reg s z)

/-- `ZSNNI`: 43_conditional.md R278. -/
def execZsnni (x y z : Byte) (s : State) : StepResult :=
  zeroOrSet s .nonNeg x (reg s y) (imm z)

/-- `ZSNZ`: 43_conditional.md R279. -/
def execZsnz (x y z : Byte) (s : State) : StepResult :=
  zeroOrSet s .nonZero x (reg s y) (reg s z)

/-- `ZSNZI`: 43_conditional.md R280. -/
def execZsnzi (x y z : Byte) (s : State) : StepResult :=
  zeroOrSet s .nonZero x (reg s y) (imm z)

/-- `ZSNP`: 43_conditional.md R281. -/
def execZsnp (x y z : Byte) (s : State) : StepResult :=
  zeroOrSet s .nonPos x (reg s y) (reg s z)

/-- `ZSNPI`: 43_conditional.md R282. -/
def execZsnpi (x y z : Byte) (s : State) : StepResult :=
  zeroOrSet s .nonPos x (reg s y) (imm z)

/-- `ZSEV`: 43_conditional.md R283. -/
def execZsev (x y z : Byte) (s : State) : StepResult :=
  zeroOrSet s .even x (reg s y) (reg s z)

/-- `ZSEVI`: 43_conditional.md R284. -/
def execZsevi (x y z : Byte) (s : State) : StepResult :=
  zeroOrSet s .even x (reg s y) (imm z)

end Sys2Proof.Machine
end

