-- ==== Sys2Proof/Machine/Illegal.lean ====
section
/-! DEFINITION. The two faults that report the instruction word (60_exceptions.md R471), shared by all families. -/

namespace Sys2Proof.Machine

/-- The word that is executing, read where it was fetched: the four bytes at pc (20_memory.md R77). It is used where
the instruction does not hold all bytes of its word (log entry 18). -/
def fetchedWord (s : State) : Tetra :=
  BitVec.ofNat 32 (Memory.readNat s.memory s.pc.toNat 4)

/-- The 30 opcodes of status N raise UnimplementedInstruction(word) whatever the bytes X, Y, Z and the state are
(30_encoding.md R114). -/
def unimplemented (s : State) : StepResult :=
  raise (.unimplementedInstruction (fetchedWord s))

/-- IllegalInstruction(word): a non-zero byte that is no operand, or an operand out of range (30_encoding.md R115). -/
def illegal (i : Instr) : StepResult :=
  raise (.illegalInstruction (word i))

/-- The check of the Y byte of formats 4, 5 and 13: it is no operand and must be 0 (30_encoding.md R115 b). -/
def withZeroY (y : Byte) (i : Instr) (k : StepResult) : StepResult :=
  if y = 0 then k else illegal i

end Sys2Proof.Machine
end

