-- ==== Sys2Proof/Machine/ControlTransfer.lean ====
section
/-! DEFINITION. Unconditional control transfer: GO, CALL, JMP, PUSHJ, GETA, RET and their variants (spec/48_control_transfer.md). -/

namespace Sys2Proof.Machine

/-- GO: x[X] takes the address after the instruction, pc takes A (48_control_transfer.md R433). -/
def goTo (s : State) (x : Byte) (A : Octa) : StepResult :=
  jump (setReg s x (s.pc + 4)) A

/-- CALL: CALL_LINKAGE.call(state, X, A), which sets pc to A; LinkageUnmodelled(word) where the run has no
CALL_LINKAGE (48_control_transfer.md R432, R435; log entry 9). -/
def callSubroutine (s : State) (i : Instr) (x : Byte) (A : Octa) : StepResult :=
  if s.launch.callLinkage then .next (setPc (linkageResult s (Config.callLinkage x A s)) A)
  else .refused (.linkageUnmodelled (word i))

/-- `GO`: 48_control_transfer.md R433. -/
def execGo (x y z : Byte) (s : State) : StepResult :=
  goTo s x (addrReg s y z)

/-- `GOI`: 48_control_transfer.md R434. -/
def execGoi (x y z : Byte) (s : State) : StepResult :=
  goTo s x (addrImm s y z)

/-- `CALL`: 48_control_transfer.md R435. -/
def execCall (x y z : Byte) (s : State) : StepResult :=
  callSubroutine s (.call x y z) x (addrReg s y z)

/-- `CALLI`: 48_control_transfer.md R436. -/
def execCalli (x y z : Byte) (s : State) : StepResult :=
  callSubroutine s (.calli x y z) x (addrImm s y z)

/-- `JMP`: 48_control_transfer.md R437. -/
def execJmp (xyz : BitVec 24) (s : State) : StepResult :=
  jump s (longForward s xyz)

/-- `JMPB`: 48_control_transfer.md R438. -/
def execJmpb (xyz : BitVec 24) (s : State) : StepResult :=
  jump s (longBackward s xyz)

/-- `PUSHJ`, status N: 48_control_transfer.md R439, 30_encoding.md R114. -/
def execPushj (s : State) : StepResult :=
  unimplemented s

/-- `PUSHJB`, status N: 48_control_transfer.md R440, 30_encoding.md R114. -/
def execPushjb (s : State) : StepResult :=
  unimplemented s

/-- `GETA`: 48_control_transfer.md R441. -/
def execGeta (x : Byte) (yz : Wyde) (s : State) : StepResult :=
  result s x (forward s yz)

/-- `GETAB`: 48_control_transfer.md R442. -/
def execGetab (x : Byte) (yz : Wyde) (s : State) : StepResult :=
  result s x (backward s yz)

/-- `RET`: 48_control_transfer.md R443. CALL_LINKAGE.ret(state), or LinkageUnmodelled(word)
where the run has no CALL_LINKAGE (48_control_transfer.md R432; log entry 9). -/
def execRet (s : State) : StepResult :=
  if s.launch.callLinkage then .next (linkageResult s (Config.retLinkage s))
  else .refused (.linkageUnmodelled (fetchedWord s))

end Sys2Proof.Machine
end

