-- ==== Sys2Proof/Machine/Float.lean ====
section
/-! DEFINITION. Floating-point arithmetic on exact numbers (spec/40_floating_point.md R130 to R135): formats,
correct rounding with its events, and the operations of FADD, FSUB, FMUL, FDIV, FSQRT, FREM, FINT, FIX, FIXU, FLOT,
SFLOT, FCMP, FEQL, LDSF, STSF as functions of the operands, the rounding mode and the enable bit U. -/

namespace Sys2Proof.Machine

/-! ## Formats and classes -/

/-- A binary format: the number of fraction bits, the exponent of the smallest subnormal, the exponent field of
infinities and NaNs. -/
structure FloatFormat where
  fracBits : Nat
  minExp : Int
  maxField : Nat
  deriving DecidableEq, Repr, Inhabited

/-- binary64: 52 fraction bits, subnormals are multiples of 2^-1074 (40_floating_point.md R130). -/
def doubleFormat : FloatFormat := { fracBits := 52, minExp := -1074, maxField := 2047 }

/-- binary32: 23 fraction bits, subnormals are multiples of 2^-149 (40_floating_point.md R133). -/
def shortFormat : FloatFormat := { fracBits := 23, minExp := -149, maxField := 255 }

/-- What a floating-point bit pattern stands for (40_floating_point.md R130): a NaN, an infinity, or the number
mant * 2^exp with a sign; a zero is a number with mant = 0. -/
inductive Fp
  | nan (signalling : Bool)
  | inf (neg : Bool)
  | fin (neg : Bool) (mant : Nat) (exp : Int)
  deriving DecidableEq, Repr, Inhabited

/-- The pattern of infinity without its sign; a larger magnitude is a NaN (40_floating_point.md R130). -/
def infinityBits (f : FloatFormat) : Nat :=
  f.maxField * 2 ^ f.fracBits

/-- The weight of the sign bit. -/
def signWeight (f : FloatFormat) : Nat :=
  (f.maxField + 1) * 2 ^ f.fracBits

/-- Sign and magnitude bits put together. -/
def packBits (f : FloatFormat) (neg : Bool) (magnitude : Nat) : Nat :=
  if neg then signWeight f + magnitude else magnitude

/-- The magnitude part of a pattern: class by exponent field and fraction (40_floating_point.md R130). -/
def unpackMagnitude (f : FloatFormat) (neg : Bool) (magnitude : Nat) : Fp :=
  let field := magnitude / 2 ^ f.fracBits
  let fraction := magnitude % 2 ^ f.fracBits
  if field = f.maxField then
    if fraction = 0 then .inf neg else .nan (decide (fraction < 2 ^ (f.fracBits - 1)))
  else if field = 0 then .fin neg fraction f.minExp
  else .fin neg (2 ^ f.fracBits + fraction) (f.minExp + (field - 1))

/-- What a bit pattern of the format stands for (40_floating_point.md R130, R133). -/
def unpack (f : FloatFormat) (bits : Nat) : Fp :=
  unpackMagnitude f (decide (bits / signWeight f % 2 = 1)) (bits % signWeight f)

/-- A register read as a double (40_floating_point.md R130). -/
def unpackDouble (v : Octa) : Fp :=
  unpack doubleFormat v.toNat

/-- A NaN, quiet or signalling. -/
def Fp.isNaN : Fp → Bool
  | .nan _ => true
  | _ => false

/-- A signalling NaN: bit 51 (bit 22 in a short float) is 0 (40_floating_point.md R130, R133). -/
def Fp.isSignalling : Fp → Bool
  | .nan signalling => signalling
  | _ => false

/-- The number with its sign inverted. -/
def Fp.negate : Fp → Fp
  | .nan signalling => .nan signalling
  | .inf neg => .inf !neg
  | .fin neg m e => .fin (!neg) m e

/-! ## Rounding -/

/-- A non-zero real number as sign, mant, exp: mant * 2^exp. For a quotient or a root that does not end, mant is odd
and stands for a number strictly between (mant - 1) * 2^exp and (mant + 1) * 2^exp, with so many bits that every
rounding below and its exactness are those of the number itself (DEDUCED, safe: log entry 22). -/
structure Exact where
  neg : Bool
  mant : Nat
  exp : Int
  deriving DecidableEq, Repr, Inhabited

/-- mant / 2^k rounded to an integer in the mode rm, and whether that changed it (40_floating_point.md R131). -/
def roundShift (rm : Rounding) (neg : Bool) (mant k : Nat) : Nat × Bool :=
  let q := mant / 2 ^ k
  let r := mant % 2 ^ k
  let away : Bool :=
    match rm with
    | .near => decide (2 ^ k < 2 * r) || (decide (2 * r = 2 ^ k) && decide (q % 2 = 1))
    | .off => false
    | .up => decide (r ≠ 0) && !neg
    | .down => decide (r ≠ 0) && neg
  (if away then q + 1 else q, decide (r ≠ 0))

/-- The magnitude of v rounded to a multiple of 2^t, counted in units of 2^t, and whether that changed it. -/
def roundTo (rm : Rounding) (v : Exact) (t : Int) : Nat × Bool :=
  if t ≤ v.exp then (v.mant * 2 ^ (v.exp - t).toNat, false)
  else roundShift rm v.neg v.mant (t - v.exp).toNat

/-- Whether an overflow gives an infinity, not the largest finite number (40_floating_point.md R132 a). -/
def overflowsToInfinity (rm : Rounding) (neg : Bool) : Bool :=
  match rm with
  | .near => true
  | .off => false
  | .up => !neg
  | .down => neg

/-- fp_round (40_floating_point.md R132; R133 for short floats): the bit pattern of the rounded number and the events.
A number r * 2^t with r below 2^(fracBits + 1) has the magnitude bits (t - minExp) * 2^fracBits + r. -/
def fpRound (f : FloatFormat) (rm : Rounding) (enableU : Bool) (v : Exact) : Nat × List Event :=
  let t := v.exp + v.mant.log2 - f.fracBits
  let r := roundTo rm v t
  let bits : Int := (t - f.minExp) * 2 ^ f.fracBits + r.1
  if infinityBits f ≤ bits then
    (packBits f v.neg (if overflowsToInfinity rm v.neg then infinityBits f else infinityBits f - 1), [.O, .X])
  else if 2 ^ f.fracBits ≤ bits then
    (packBits f v.neg bits.toNat, if r.2 then [.X] else [])
  else
    let q := roundTo rm v f.minExp
    (packBits f v.neg q.1, if q.2 then [.U, .X] else if enableU then [.U] else [])

/-- The pattern of a number that the format holds exactly. -/
def packExact (f : FloatFormat) (neg : Bool) (mant : Nat) (exp : Int) : Nat :=
  if mant = 0 then packBits f neg 0 else (fpRound f .near false ⟨neg, mant, exp⟩).1

/-! ## Results -/

/-- What an instruction delivers to x[X], with its events: a value, a quiet NaN with free sign and payload
(40_floating_point.md R132), or any value (R141). -/
inductive FloatResult
  | value (v : Octa) (events : List Event)
  | quietNaN (events : List Event)
  | unspecified (events : List Event)
  deriving DecidableEq, Repr, Inhabited

/-- A quiet NaN with the sign and the bits 50:0 of a free value (40_floating_point.md R132; log entry 13). -/
def quietNaNOf (free : Octa) : Octa :=
  (free &&& 0x8007FFFFFFFFFFFF) ||| 0x7FF8000000000000

/-- A NaN, quiet or signalling, with sign, bit 51 and payload of a free value (40_floating_point.md R133, LDSF; log
entry 13). A free value without any fraction bit gives the quiet NaN with a zero payload. -/
def nanOf (free : Octa) : Octa :=
  if free &&& 0x000FFFFFFFFFFFFF = 0 then quietNaNOf free
  else (free &&& 0x800FFFFFFFFFFFFF) ||| 0x7FF0000000000000

/-- Some short NaN with sign, bit 22 and payload of a free value (45_stores.md R349; log entry 13). -/
def shortNanOf (free : Octa) : Nat :=
  let b := free.toNat % 2 ^ 32
  if b % 2 ^ 23 = 0 then b / 2 ^ 31 * 2 ^ 31 + 0x7FC00000
  else b / 2 ^ 31 * 2 ^ 31 + 0x7F800000 + b % 2 ^ 23

/-- The result goes to x[X], then the events, then pc + 4 (40_floating_point.md R136). -/
def deliver (s : State) (x : Byte) : FloatResult → StepResult
  | .value v es => resultWith s x v es
  | .quietNaN es => resultAny s x quietNaNOf es
  | .unspecified es => resultAny s x id es

/-- The event I when an operand is a signalling NaN (40_floating_point.md R132). -/
def signallingEvents (y z : Fp) : List Event :=
  if y.isSignalling || z.isSignalling then [.I] else []

/-- A double with the given sign and magnitude bits. -/
def doubleOf (neg : Bool) (magnitude : Nat) : Octa :=
  BitVec.ofNat 64 (packBits doubleFormat neg magnitude)

/-- A signed infinity (40_floating_point.md R130). -/
def infinity (neg : Bool) : Octa :=
  doubleOf neg (infinityBits doubleFormat)

/-- A signed zero (40_floating_point.md R130). -/
def signedZero (neg : Bool) : Octa :=
  doubleOf neg 0

/-- An exact non-zero number rounded to a double (40_floating_point.md R132). -/
def rounded (rm : Rounding) (enableU : Bool) (v : Exact) : FloatResult :=
  .value (BitVec.ofNat 64 (fpRound doubleFormat rm enableU v).1) (fpRound doubleFormat rm enableU v).2

/-! ## Addition and subtraction -/

/-- The number as an integer count of 2^e, for e at most its exponent. -/
def scaled (neg : Bool) (m : Nat) (exp e : Int) : Int :=
  let n : Int := (m * 2 ^ (exp - e).toNat : Nat)
  if neg then -n else n

/-- An integer count of 2^e as sign, mantissa, exponent. -/
def exactOfInt (n e : Int) : Exact :=
  ⟨decide (n < 0), n.natAbs, e⟩

/-- The sum of two finite numbers; `zy` is the sign of a zero sum (40_floating_point.md R140). -/
def addFinite (rm : Rounding) (enableU : Bool) (ny : Bool) (my : Nat) (ey : Int) (nz : Bool) (mz : Nat) (ez : Int) :
    FloatResult :=
  let e := min ey ez
  let v := scaled ny my ey e + scaled nz mz ez e
  if v = 0 then
    .value (signedZero (if my = 0 ∧ mz = 0 ∧ ny = nz then ny else decide (rm = .down))) []
  else rounded rm enableU (exactOfInt v e)

/-- FADD (40_floating_point.md R140). -/
def floatAdd (rm : Rounding) (enableU : Bool) : Fp → Fp → FloatResult
  | .nan a, z => .quietNaN (signallingEvents (.nan a) z)
  | y, .nan b => .quietNaN (signallingEvents y (.nan b))
  | .inf a, .inf b => if a = b then .value (infinity a) [] else .quietNaN [.I]
  | .inf a, .fin _ _ _ => .value (infinity a) []
  | .fin _ _ _, .inf b => .value (infinity b) []
  | .fin ny my ey, .fin nz mz ez => addFinite rm enableU ny my ey nz mz ez

/-- FSUB: FADD with the sign of z inverted, a NaN apart (40_floating_point.md R142). -/
def floatSub (rm : Rounding) (enableU : Bool) (y z : Fp) : FloatResult :=
  floatAdd rm enableU y z.negate

/-! ## Multiplication, division, square root -/

/-- FMUL (40_floating_point.md R152). -/
def floatMul (rm : Rounding) (enableU : Bool) : Fp → Fp → FloatResult
  | .nan a, z => .quietNaN (signallingEvents (.nan a) z)
  | y, .nan b => .quietNaN (signallingEvents y (.nan b))
  | .inf a, .inf b => .value (infinity (xor a b)) []
  | .inf a, .fin b m _ => if m = 0 then .quietNaN [.I] else .value (infinity (xor a b)) []
  | .fin a m _, .inf b => if m = 0 then .quietNaN [.I] else .value (infinity (xor a b)) []
  | .fin a my ey, .fin b mz ez =>
    if my * mz = 0 then .value (signedZero (xor a b)) []
    else rounded rm enableU ⟨xor a b, my * mz, ey + ez⟩

/-- A number whose doubled integer part is known, with a last bit that says whether anything was cut off. -/
def withStickyBit (q : Nat) (exact : Bool) : Nat :=
  2 * q + if exact then 0 else 1

/-- The exact quotient of two finite non-zero numbers. -/
def quotient (neg : Bool) (my : Nat) (ey : Int) (mz : Nat) (ez : Int) : Exact :=
  let n := my * 2 ^ 120
  ⟨neg, withStickyBit (n / mz) (decide (n % mz = 0)), ey - ez - 121⟩

/-- FDIV (40_floating_point.md R156). -/
def floatDiv (rm : Rounding) (enableU : Bool) : Fp → Fp → FloatResult
  | .nan a, z => .quietNaN (signallingEvents (.nan a) z)
  | y, .nan b => .quietNaN (signallingEvents y (.nan b))
  | .inf _, .inf _ => .quietNaN [.I]
  | .inf a, .fin b _ _ => .value (infinity (xor a b)) []
  | .fin a _ _, .inf b => .value (signedZero (xor a b)) []
  | .fin a my ey, .fin b mz ez =>
    if mz = 0 then
      if my = 0 then .quietNaN [.I] else .value (infinity (xor a b)) [.Z]
    else if my = 0 then .value (signedZero (xor a b)) []
    else rounded rm enableU (quotient (xor a b) my ey mz ez)

/-- The integer square root of n by its bits from the highest down; r is the part that is found, b the number of bits
left. -/
def rootBits (n : Nat) : Nat → Nat → Nat
  | 0, r => r
  | b + 1, r => if (r + 2 ^ b) * (r + 2 ^ b) ≤ n then rootBits n b (r + 2 ^ b) else rootBits n b r

/-- The exact square root of a positive finite number. -/
def squareRoot (m : Nat) (e : Int) : Exact :=
  let odd := e % 2
  let n := m * 2 ^ (128 + odd).toNat
  let r := rootBits n 96 0
  ⟨false, withStickyBit r (decide (r * r = n)), (e - odd) / 2 - 65⟩

/-- FSQRT; v is the operand's register value (40_floating_point.md R157). The enable bit U plays no part: a root is
never tiny. -/
def floatSqrt (rm : Rounding) (v : Octa) : Fp → FloatResult
  | .nan a => .quietNaN (if a then [.I] else [])
  | .inf neg => if neg then .quietNaN [.I] else .value v []
  | .fin neg m e =>
    if m = 0 then .value v [] else if neg then .quietNaN [.I] else rounded rm false (squareRoot m e)

/-! ## Remainder and rounding to an integer -/

/-- y - n * z for n the integer nearest to y / z, the even one on a tie, all counted in one unit: a is |y|, b is |z|;
the answer is |v| and whether v has the sign opposite to y (40_floating_point.md R158). -/
def nearestRemainder (a b : Nat) : Nat × Bool :=
  let r := a % b
  if b < 2 * r ∨ (2 * r = b ∧ a / b % 2 = 1) then (b - r, true) else (r, false)

/-- The remainder of two finite non-zero numbers; a zero takes the sign of y (40_floating_point.md R158). -/
def remainderFinite (ny : Bool) (my : Nat) (ey : Int) (mz : Nat) (ez : Int) : FloatResult :=
  let e := min ey ez
  let r := nearestRemainder (my * 2 ^ (ey - e).toNat) (mz * 2 ^ (ez - e).toNat)
  .value (BitVec.ofNat 64 (packExact doubleFormat (if r.1 = 0 then ny else xor ny r.2) r.1 e)) []

/-- FREM; v is the register value of the first operand (40_floating_point.md R158). -/
def floatRemainder (v : Octa) : Fp → Fp → FloatResult
  | .nan a, z => .quietNaN (signallingEvents (.nan a) z)
  | y, .nan b => .quietNaN (signallingEvents y (.nan b))
  | .inf _, _ => .quietNaN [.I]
  | .fin _ _ _, .inf _ => .value v []
  | .fin ny my ey, .fin _ mz ez =>
    if mz = 0 then .quietNaN [.I] else if my = 0 then .value v [] else remainderFinite ny my ey mz ez

/-- FINT; v is the operand's register value (40_floating_point.md R159). -/
def floatInteger (rm : Rounding) (v : Octa) : Fp → FloatResult
  | .nan a => .quietNaN (if a then [.I] else [])
  | .inf _ => .value v []
  | .fin neg m e =>
    if m = 0 then .value v []
    else
      let r := roundTo rm ⟨neg, m, e⟩ 0
      .value (BitVec.ofNat 64 (packExact doubleFormat neg r.1 0)) (if r.2 then [.X] else [])

/-! ## Conversions -/

/-- A finite number rounded to an integer, and whether that changed it (40_floating_point.md R141). -/
def roundToInt (rm : Rounding) (neg : Bool) (m : Nat) (e : Int) : Int × Bool :=
  let r := roundTo rm ⟨neg, m, e⟩ 0
  (if neg then -(r.1 : Int) else r.1, r.2)

/-- FIX (40_floating_point.md R141). -/
def floatToFix (rm : Rounding) : Fp → FloatResult
  | .nan _ => .unspecified [.I]
  | .inf _ => .unspecified [.I]
  | .fin neg m e =>
    let n := roundToInt rm neg m e
    if -(2 ^ 63) ≤ n.1 ∧ n.1 ≤ 2 ^ 63 - 1 then .value (BitVec.ofInt 64 n.1) (if n.2 then [.X] else [])
    else .unspecified [.W]

/-- FIXU (40_floating_point.md R143). -/
def floatToFixUnsigned (rm : Rounding) : Fp → FloatResult
  | .nan _ => .unspecified [.I]
  | .inf _ => .unspecified [.I]
  | .fin neg m e =>
    let n := roundToInt rm neg m e
    if -(2 ^ 63) ≤ n.1 ∧ n.1 ≤ 2 ^ 64 - 1 then .value (BitVec.ofInt 64 n.1) (if n.2 then [.X] else [])
    else .unspecified []

/-- FLOT, FLOTU and their immediate forms on the integer n (40_floating_point.md R144, R146). -/
def fixToFloat (rm : Rounding) (n : Int) : FloatResult :=
  if n = 0 then .value 0 [] else rounded rm false (exactOfInt n 0)

/-- A number rounded to the 24 bits of a short float, as a double: fp_round_short for a number in the range of the
short floats (40_floating_point.md R133). -/
def roundedShort (rm : Rounding) (v : Exact) : FloatResult :=
  let t := v.exp + v.mant.log2 - 23
  let r := roundTo rm v t
  .value (BitVec.ofNat 64 (packExact doubleFormat v.neg r.1 t)) (if r.2 then [.X] else [])

/-- SFLOT, SFLOTU and their immediate forms on the integer n (40_floating_point.md R148, R150). -/
def fixToShort (rm : Rounding) (n : Int) : FloatResult :=
  if n = 0 then .value 0 [] else roundedShort rm (exactOfInt n 0)

/-- fp_from_short (40_floating_point.md R133): the double equal to the short float t; none for a NaN. -/
def fromShort (t : Nat) : Option Octa :=
  match unpack shortFormat t with
  | .nan _ => none
  | .inf neg => some (infinity neg)
  | .fin neg m e => some (BitVec.ofNat 64 (packExact doubleFormat neg m e))

/-- fp_to_short (40_floating_point.md R133): the short float and the events; none stands for some short NaN. -/
def toShort (rm : Rounding) (enableU : Bool) (v : Octa) : Option Nat × List Event :=
  match unpackDouble v with
  | .nan a => (none, if a then [.I] else [])
  | .inf neg => (some (packBits shortFormat neg (infinityBits shortFormat)), [])
  | .fin neg m e =>
    if m = 0 then (some (packBits shortFormat neg 0), [])
    else (some (fpRound shortFormat rm enableU ⟨neg, m, e⟩).1, (fpRound shortFormat rm enableU ⟨neg, m, e⟩).2)

/-! ## Comparison -/

/-- y < z as extended real numbers; a NaN is less than nothing (40_floating_point.md R135). -/
def floatLess : Fp → Fp → Bool
  | .nan _, _ => false
  | _, .nan _ => false
  | .inf a, .inf b => a && !b
  | .inf a, .fin _ _ _ => a
  | .fin _ _ _, .inf b => !b
  | .fin ny my ey, .fin nz mz ez => decide (scaled ny my ey (min ey ez) < scaled nz mz ez (min ey ez))

/-- FCMP (40_floating_point.md R137). -/
def floatCompare (y z : Fp) : FloatResult :=
  if y.isNaN || z.isNaN then .value 0 [.I]
  else if floatLess y z then .value 0xFFFFFFFFFFFFFFFF []
  else if floatLess z y then .value 1 []
  else .value 0 []

/-- FEQL (40_floating_point.md R139). -/
def floatEqual (y z : Fp) : FloatResult :=
  if y.isNaN || z.isNaN then .value 0 (signallingEvents y z)
  else .value (if floatLess y z || floatLess z y then 0 else 1) []

end Sys2Proof.Machine
end

