-- ==== Sys2Proof/Machine/FloatingPoint.lean ====
section
/-! DEFINITION. The floating-point instructions: opcodes 0x01 .. 0x17 (spec/40_floating_point.md), over the arithmetic of Float.lean. -/

namespace Sys2Proof.Machine

/-- `FCMP`: 40_floating_point.md R137. -/
def execFcmp (x y z : Byte) (s : State) : StepResult :=
  deliver s x (floatCompare (unpackDouble (reg s y)) (unpackDouble (reg s z)))

/-- `FEQL`: 40_floating_point.md R139. -/
def execFeql (x y z : Byte) (s : State) : StepResult :=
  deliver s x (floatEqual (unpackDouble (reg s y)) (unpackDouble (reg s z)))

/-- `FADD`: 40_floating_point.md R140. -/
def execFadd (x y z : Byte) (s : State) : StepResult :=
  deliver s x (floatAdd (roundingMode s) (enabled s .U) (unpackDouble (reg s y)) (unpackDouble (reg s z)))

/-- `FSUB`: 40_floating_point.md R142. -/
def execFsub (x y z : Byte) (s : State) : StepResult :=
  deliver s x (floatSub (roundingMode s) (enabled s .U) (unpackDouble (reg s y)) (unpackDouble (reg s z)))

/-- `FMUL`: 40_floating_point.md R152. -/
def execFmul (x y z : Byte) (s : State) : StepResult :=
  deliver s x (floatMul (roundingMode s) (enabled s .U) (unpackDouble (reg s y)) (unpackDouble (reg s z)))

/-- `FDIV`: 40_floating_point.md R156. -/
def execFdiv (x y z : Byte) (s : State) : StepResult :=
  deliver s x (floatDiv (roundingMode s) (enabled s .U) (unpackDouble (reg s y)) (unpackDouble (reg s z)))

/-- `FREM`: 40_floating_point.md R158. -/
def execFrem (x y z : Byte) (s : State) : StepResult :=
  deliver s x (floatRemainder (reg s y) (unpackDouble (reg s y)) (unpackDouble (reg s z)))

/-- `FUN`, status N: 40_floating_point.md R138, 30_encoding.md R114. -/
def execFun (s : State) : StepResult :=
  unimplemented s

/-- `FCMPE`, status N: 40_floating_point.md R153, 30_encoding.md R114. -/
def execFcmpe (s : State) : StepResult :=
  unimplemented s

/-- `FUNE`, status N: 40_floating_point.md R154, 30_encoding.md R114. -/
def execFune (s : State) : StepResult :=
  unimplemented s

/-- `FEQLE`, status N: 40_floating_point.md R155, 30_encoding.md R114. -/
def execFeqle (s : State) : StepResult :=
  unimplemented s

/-- `FIX`: 40_floating_point.md R141. -/
def execFix (x y z : Byte) (s : State) : StepResult :=
  withZeroY y (.fix x y z)
    (deliver s x (floatToFix (roundingMode s) (unpackDouble (reg s z))))

/-- `FIXU`: 40_floating_point.md R143. -/
def execFixu (x y z : Byte) (s : State) : StepResult :=
  withZeroY y (.fixu x y z)
    (deliver s x (floatToFixUnsigned (roundingMode s) (unpackDouble (reg s z))))

/-- `FSQRT`: 40_floating_point.md R157. -/
def execFsqrt (x y z : Byte) (s : State) : StepResult :=
  withZeroY y (.fsqrt x y z)
    (deliver s x (floatSqrt (roundingMode s) (reg s z) (unpackDouble (reg s z))))

/-- `FINT`: 40_floating_point.md R159. -/
def execFint (x y z : Byte) (s : State) : StepResult :=
  withZeroY y (.fint x y z)
    (deliver s x (floatInteger (roundingMode s) (reg s z) (unpackDouble (reg s z))))

/-- `FLOT`: 40_floating_point.md R144. -/
def execFlot (x y z : Byte) (s : State) : StepResult :=
  withZeroY y (.flot x y z)
    (deliver s x (fixToFloat (roundingMode s) (reg s z).toInt))

/-- `FLOTI`: 40_floating_point.md R145. -/
def execFloti (x y z : Byte) (s : State) : StepResult :=
  withZeroY y (.floti x y z)
    (deliver s x (fixToFloat (roundingMode s) (imm z).toInt))

/-- `FLOTU`: 40_floating_point.md R146. -/
def execFlotu (x y z : Byte) (s : State) : StepResult :=
  withZeroY y (.flotu x y z)
    (deliver s x (fixToFloat (roundingMode s) (reg s z).toNat))

/-- `FLOTUI`: 40_floating_point.md R147. -/
def execFlotui (x y z : Byte) (s : State) : StepResult :=
  withZeroY y (.flotui x y z)
    (deliver s x (fixToFloat (roundingMode s) (imm z).toNat))

/-- `SFLOT`: 40_floating_point.md R148. -/
def execSflot (x y z : Byte) (s : State) : StepResult :=
  withZeroY y (.sflot x y z)
    (deliver s x (fixToShort (roundingMode s) (reg s z).toInt))

/-- `SFLOTI`: 40_floating_point.md R149. -/
def execSfloti (x y z : Byte) (s : State) : StepResult :=
  withZeroY y (.sfloti x y z)
    (deliver s x (fixToShort (roundingMode s) (imm z).toInt))

/-- `SFLOTU`: 40_floating_point.md R150. -/
def execSflotu (x y z : Byte) (s : State) : StepResult :=
  withZeroY y (.sflotu x y z)
    (deliver s x (fixToShort (roundingMode s) (reg s z).toNat))

/-- `SFLOTUI`: 40_floating_point.md R151. -/
def execSflotui (x y z : Byte) (s : State) : StepResult :=
  withZeroY y (.sflotui x y z)
    (deliver s x (fixToShort (roundingMode s) (imm z).toNat))

end Sys2Proof.Machine
end

