-- ==== Sys2Proof/Machine/Integer.lean ====
section
/-! DEFINITION. Integer arithmetic, compare, negate, shift: opcodes 0x18 .. 0x3F (spec/41_integer_arithmetic.md). -/

namespace Sys2Proof.Machine

/-- The division of two signed integers by 41_integer_arithmetic.md R164 and R169: quotient, remainder and events. -/
def divide (y z : Octa) : Octa × Octa × List Event :=
  if z = 0 then (0, y, [.D])
  else if y = 0x8000000000000000 ∧ z = 0xFFFFFFFFFFFFFFFF then (0x8000000000000000, 0, [.V])
  else (BitVec.ofInt 64 (y.toInt.fdiv z.toInt), BitVec.ofInt 64 (y.toInt.fmod z.toInt), [])

/-- The division of d * 2^64 + y by z, unsigned (41_integer_arithmetic.md R171): quotient and remainder. -/
def divideUnsigned (d y z : Octa) : Octa × Octa :=
  if d.toNat < z.toNat then
    (BitVec.ofNat 64 ((d.toNat * 2 ^ 64 + y.toNat) / z.toNat),
      BitVec.ofNat 64 ((d.toNat * 2 ^ 64 + y.toNat) % z.toNat))
  else (d, y)

/-- The verdict -1, 0, +1 of a comparison (10_state.md R32). -/
def verdict (less greater : Bool) : Octa :=
  if less then 0xFFFFFFFFFFFFFFFF else if greater then 1 else 0

/-- The exact signed integer r goes to x[X] modulo 2^64, with V when it does not fit (41_integer_arithmetic.md R160,
R173). -/
def signedResult (s : State) (x : Byte) (r : Int) : StepResult :=
  resultWith s x (BitVec.ofInt 64 r) (overflowEvents r)

/-- The product of two unsigned octas: low half to x[X], high half to rH (41_integer_arithmetic.md R167). -/
def mulUnsigned (s : State) (x : Byte) (y z : Octa) : StepResult :=
  next (setReg (setSpecial s rH (BitVec.ofNat 64 (y.toNat * z.toNat / 2 ^ 64))) x
    (BitVec.ofNat 64 (y.toNat * z.toNat)))

/-- Quotient to x[X], remainder to rR, then the events (41_integer_arithmetic.md R169). -/
def divSigned (s : State) (x : Byte) (y z : Octa) : StepResult :=
  resultWith (setSpecial s rR (divide y z).2.1) x (divide y z).1 (divide y z).2.2

/-- Quotient to x[X], remainder to rR (41_integer_arithmetic.md R171). -/
def divUnsigned (s : State) (x : Byte) (y z : Octa) : StepResult :=
  result (setSpecial s rR (divideUnsigned (special s rD) y z).2) x (divideUnsigned (special s rD) y z).1

/-- Comparison as signed integers (41_integer_arithmetic.md R189). -/
def compareSigned (s : State) (x : Byte) (y z : Octa) : StepResult :=
  result s x (verdict (decide (y.toInt < z.toInt)) (decide (z.toInt < y.toInt)))

/-- Comparison as unsigned integers (41_integer_arithmetic.md R191). -/
def compareUnsigned (s : State) (x : Byte) (y z : Octa) : StepResult :=
  result s x (verdict (decide (y.toNat < z.toNat)) (decide (z.toNat < y.toNat)))

/-- Shift left with the overflow event (41_integer_arithmetic.md R197). -/
def shiftLeft (s : State) (x : Byte) (y n : Octa) : StepResult :=
  if 64 ≤ n.toNat then resultWith s x 0 (if y = 0 then [] else [.V])
  else signedResult s x (y.toInt * 2 ^ n.toNat)

/-- Shift left, unsigned (41_integer_arithmetic.md R199). -/
def shiftLeftUnsigned (s : State) (x : Byte) (y n : Octa) : StepResult :=
  result s x (if 64 ≤ n.toNat then 0 else BitVec.ofNat 64 (y.toNat * 2 ^ n.toNat))

/-- Shift right, signed (41_integer_arithmetic.md R201). -/
def shiftRight (s : State) (x : Byte) (y n : Octa) : StepResult :=
  result s x
    (if 64 ≤ n.toNat then (if y.toInt < 0 then 0xFFFFFFFFFFFFFFFF else 0)
     else BitVec.ofInt 64 (y.toInt.fdiv (2 ^ n.toNat)))

/-- Shift right, unsigned (41_integer_arithmetic.md R203). -/
def shiftRightUnsigned (s : State) (x : Byte) (y n : Octa) : StepResult :=
  result s x (if 64 ≤ n.toNat then 0 else BitVec.ofNat 64 (y.toNat / 2 ^ n.toNat))

/-- The sum of y scaled and z, modulo 2^64 (41_integer_arithmetic.md R181). -/
def addScaled (s : State) (x : Byte) (k : Octa) (y z : Octa) : StepResult :=
  result s x (k * y + z)

/-- `MUL`: 41_integer_arithmetic.md R165. -/
def execMul (x y z : Byte) (s : State) : StepResult :=
  signedResult s x ((reg s y).toInt * (reg s z).toInt)

/-- `MULI`: 41_integer_arithmetic.md R166. -/
def execMuli (x y z : Byte) (s : State) : StepResult :=
  signedResult s x ((reg s y).toInt * (imm z).toInt)

/-- `MULU`: 41_integer_arithmetic.md R167. -/
def execMulu (x y z : Byte) (s : State) : StepResult :=
  mulUnsigned s x (reg s y) (reg s z)

/-- `MULUI`: 41_integer_arithmetic.md R168. -/
def execMului (x y z : Byte) (s : State) : StepResult :=
  mulUnsigned s x (reg s y) (imm z)

/-- `DIV`: 41_integer_arithmetic.md R169. -/
def execDiv (x y z : Byte) (s : State) : StepResult :=
  divSigned s x (reg s y) (reg s z)

/-- `DIVI`: 41_integer_arithmetic.md R170. -/
def execDivi (x y z : Byte) (s : State) : StepResult :=
  divSigned s x (reg s y) (imm z)

/-- `DIVU`: 41_integer_arithmetic.md R171. -/
def execDivu (x y z : Byte) (s : State) : StepResult :=
  divUnsigned s x (reg s y) (reg s z)

/-- `DIVUI`: 41_integer_arithmetic.md R172. -/
def execDivui (x y z : Byte) (s : State) : StepResult :=
  divUnsigned s x (reg s y) (imm z)

/-- `ADD`: 41_integer_arithmetic.md R173. -/
def execAdd (x y z : Byte) (s : State) : StepResult :=
  signedResult s x ((reg s y).toInt + (reg s z).toInt)

/-- `ADDI`: 41_integer_arithmetic.md R174. -/
def execAddi (x y z : Byte) (s : State) : StepResult :=
  signedResult s x ((reg s y).toInt + (imm z).toInt)

/-- `ADDU`: 41_integer_arithmetic.md R175. -/
def execAddu (x y z : Byte) (s : State) : StepResult :=
  result s x ((reg s y) + (reg s z))

/-- `ADDUI`: 41_integer_arithmetic.md R176. -/
def execAddui (x y z : Byte) (s : State) : StepResult :=
  result s x ((reg s y) + (imm z))

/-- `SUB`: 41_integer_arithmetic.md R177. -/
def execSub (x y z : Byte) (s : State) : StepResult :=
  signedResult s x ((reg s y).toInt - (reg s z).toInt)

/-- `SUBI`: 41_integer_arithmetic.md R178. -/
def execSubi (x y z : Byte) (s : State) : StepResult :=
  signedResult s x ((reg s y).toInt - (imm z).toInt)

/-- `SUBU`: 41_integer_arithmetic.md R179. -/
def execSubu (x y z : Byte) (s : State) : StepResult :=
  result s x ((reg s y) - (reg s z))

/-- `SUBUI`: 41_integer_arithmetic.md R180. -/
def execSubui (x y z : Byte) (s : State) : StepResult :=
  result s x ((reg s y) - (imm z))

/-- `2ADDU`: 41_integer_arithmetic.md R181. -/
def execAddu2 (x y z : Byte) (s : State) : StepResult :=
  addScaled s x 2 (reg s y) (reg s z)

/-- `2ADDUI`: 41_integer_arithmetic.md R182. -/
def execAddu2i (x y z : Byte) (s : State) : StepResult :=
  addScaled s x 2 (reg s y) (imm z)

/-- `4ADDU`: 41_integer_arithmetic.md R183. -/
def execAddu4 (x y z : Byte) (s : State) : StepResult :=
  addScaled s x 4 (reg s y) (reg s z)

/-- `4ADDUI`: 41_integer_arithmetic.md R184. -/
def execAddu4i (x y z : Byte) (s : State) : StepResult :=
  addScaled s x 4 (reg s y) (imm z)

/-- `8ADDU`: 41_integer_arithmetic.md R185. -/
def execAddu8 (x y z : Byte) (s : State) : StepResult :=
  addScaled s x 8 (reg s y) (reg s z)

/-- `8ADDUI`: 41_integer_arithmetic.md R186. -/
def execAddu8i (x y z : Byte) (s : State) : StepResult :=
  addScaled s x 8 (reg s y) (imm z)

/-- `16ADDU`: 41_integer_arithmetic.md R187. -/
def execAddu16 (x y z : Byte) (s : State) : StepResult :=
  addScaled s x 16 (reg s y) (reg s z)

/-- `16ADDUI`: 41_integer_arithmetic.md R188. -/
def execAddu16i (x y z : Byte) (s : State) : StepResult :=
  addScaled s x 16 (reg s y) (imm z)

/-- `CMP`: 41_integer_arithmetic.md R189. -/
def execCmp (x y z : Byte) (s : State) : StepResult :=
  compareSigned s x (reg s y) (reg s z)

/-- `CMPI`: 41_integer_arithmetic.md R190. -/
def execCmpi (x y z : Byte) (s : State) : StepResult :=
  compareSigned s x (reg s y) (imm z)

/-- `CMPU`: 41_integer_arithmetic.md R191. -/
def execCmpu (x y z : Byte) (s : State) : StepResult :=
  compareUnsigned s x (reg s y) (reg s z)

/-- `CMPUI`: 41_integer_arithmetic.md R192. -/
def execCmpui (x y z : Byte) (s : State) : StepResult :=
  compareUnsigned s x (reg s y) (imm z)

/-- `NEG`: 41_integer_arithmetic.md R193. -/
def execNeg (x y z : Byte) (s : State) : StepResult :=
  signedResult s x ((imm y).toInt - (reg s z).toInt)

/-- `NEGI`: 41_integer_arithmetic.md R194. -/
def execNegi (x y z : Byte) (s : State) : StepResult :=
  result s x (BitVec.ofInt 64 ((imm y).toInt - (imm z).toInt))

/-- `NEGU`: 41_integer_arithmetic.md R195. -/
def execNegu (x y z : Byte) (s : State) : StepResult :=
  result s x (imm y - (reg s z))

/-- `NEGUI`: 41_integer_arithmetic.md R196. -/
def execNegui (x y z : Byte) (s : State) : StepResult :=
  result s x (imm y - (imm z))

/-- `SL`: 41_integer_arithmetic.md R197. -/
def execSl (x y z : Byte) (s : State) : StepResult :=
  shiftLeft s x (reg s y) (reg s z)

/-- `SLI`: 41_integer_arithmetic.md R198. -/
def execSli (x y z : Byte) (s : State) : StepResult :=
  shiftLeft s x (reg s y) (imm z)

/-- `SLU`: 41_integer_arithmetic.md R199. -/
def execSlu (x y z : Byte) (s : State) : StepResult :=
  shiftLeftUnsigned s x (reg s y) (reg s z)

/-- `SLUI`: 41_integer_arithmetic.md R200. -/
def execSlui (x y z : Byte) (s : State) : StepResult :=
  shiftLeftUnsigned s x (reg s y) (imm z)

/-- `SR`: 41_integer_arithmetic.md R201. -/
def execSr (x y z : Byte) (s : State) : StepResult :=
  shiftRight s x (reg s y) (reg s z)

/-- `SRI`: 41_integer_arithmetic.md R202. -/
def execSri (x y z : Byte) (s : State) : StepResult :=
  shiftRight s x (reg s y) (imm z)

/-- `SRU`: 41_integer_arithmetic.md R203. -/
def execSru (x y z : Byte) (s : State) : StepResult :=
  shiftRightUnsigned s x (reg s y) (reg s z)

/-- `SRUI`: 41_integer_arithmetic.md R204. -/
def execSrui (x y z : Byte) (s : State) : StepResult :=
  shiftRightUnsigned s x (reg s y) (imm z)

end Sys2Proof.Machine
end

