-- ==== Sys2Proof/Machine/Loads.lean ====
section
/-! DEFINITION. Loads and the status-N opcodes among them: 0x80 .. 0x9D (spec/44_loads.md). -/

namespace Sys2Proof.Machine

/-- sext_8n of an n-byte value (44_loads.md R292). -/
def signExtend (n : Nat) (v : Nat) : Octa :=
  (BitVec.ofNat (8 * n) v).signExtend 64

/-- zext_8n of an n-byte value (44_loads.md R292). -/
def zeroExtend (v : Nat) : Octa :=
  BitVec.ofNat 64 v

/-- LDSF: the short float at A as a double; a NaN gives some NaN (44_loads.md R310, 40_floating_point.md R133). -/
def loadShort (s : State) (x : Byte) (A : Octa) : StepResult :=
  match memRead s A 4 with
  | .error e => raise e
  | .ok t =>
    match fromShort t with
    | some d => result s x d
    | none => resultAny s x nanOf []

/-- `LDB`: 44_loads.md R294. -/
def execLdb (x y z : Byte) (s : State) : StepResult :=
  load s x (addrReg s y z) 1 (signExtend 1)

/-- `LDBI`: 44_loads.md R295. -/
def execLdbi (x y z : Byte) (s : State) : StepResult :=
  load s x (addrImm s y z) 1 (signExtend 1)

/-- `LDBU`: 44_loads.md R296. -/
def execLdbu (x y z : Byte) (s : State) : StepResult :=
  load s x (addrReg s y z) 1 zeroExtend

/-- `LDBUI`: 44_loads.md R297. -/
def execLdbui (x y z : Byte) (s : State) : StepResult :=
  load s x (addrImm s y z) 1 zeroExtend

/-- `LDW`: 44_loads.md R298. -/
def execLdw (x y z : Byte) (s : State) : StepResult :=
  load s x (addrReg s y z) 2 (signExtend 2)

/-- `LDWI`: 44_loads.md R299. -/
def execLdwi (x y z : Byte) (s : State) : StepResult :=
  load s x (addrImm s y z) 2 (signExtend 2)

/-- `LDWU`: 44_loads.md R300. -/
def execLdwu (x y z : Byte) (s : State) : StepResult :=
  load s x (addrReg s y z) 2 zeroExtend

/-- `LDWUI`: 44_loads.md R301. -/
def execLdwui (x y z : Byte) (s : State) : StepResult :=
  load s x (addrImm s y z) 2 zeroExtend

/-- `LDT`: 44_loads.md R302. -/
def execLdt (x y z : Byte) (s : State) : StepResult :=
  load s x (addrReg s y z) 4 (signExtend 4)

/-- `LDTI`: 44_loads.md R303. -/
def execLdti (x y z : Byte) (s : State) : StepResult :=
  load s x (addrImm s y z) 4 (signExtend 4)

/-- `LDTU`: 44_loads.md R304. -/
def execLdtu (x y z : Byte) (s : State) : StepResult :=
  load s x (addrReg s y z) 4 zeroExtend

/-- `LDTUI`: 44_loads.md R305. -/
def execLdtui (x y z : Byte) (s : State) : StepResult :=
  load s x (addrImm s y z) 4 zeroExtend

/-- `LDO`: 44_loads.md R306. -/
def execLdo (x y z : Byte) (s : State) : StepResult :=
  load s x (addrReg s y z) 8 zeroExtend

/-- `LDOI`: 44_loads.md R307. -/
def execLdoi (x y z : Byte) (s : State) : StepResult :=
  load s x (addrImm s y z) 8 zeroExtend

/-- `LDOU`: 44_loads.md R308. -/
def execLdou (x y z : Byte) (s : State) : StepResult :=
  load s x (addrReg s y z) 8 zeroExtend

/-- `LDOUI`: 44_loads.md R309. -/
def execLdoui (x y z : Byte) (s : State) : StepResult :=
  load s x (addrImm s y z) 8 zeroExtend

/-- `LDSF`: 44_loads.md R310. -/
def execLdsf (x y z : Byte) (s : State) : StepResult :=
  loadShort s x (addrReg s y z)

/-- `LDSFI`: 44_loads.md R311. -/
def execLdsfi (x y z : Byte) (s : State) : StepResult :=
  loadShort s x (addrImm s y z)

/-- `LDHT`: 44_loads.md R312. -/
def execLdht (x y z : Byte) (s : State) : StepResult :=
  load s x (addrReg s y z) 4 (fun v => BitVec.ofNat 64 (v * 2 ^ 32))

/-- `LDHTI`: 44_loads.md R313. -/
def execLdhti (x y z : Byte) (s : State) : StepResult :=
  load s x (addrImm s y z) 4 (fun v => BitVec.ofNat 64 (v * 2 ^ 32))

/-- `CSWAP`, status N: 44_loads.md R314, 30_encoding.md R114. -/
def execCswap (s : State) : StepResult :=
  unimplemented s

/-- `CSWAPI`, status N: 44_loads.md R315, 30_encoding.md R114. -/
def execCswapi (s : State) : StepResult :=
  unimplemented s

/-- `LDUNC`, status N: 44_loads.md R316, 30_encoding.md R114. -/
def execLdunc (s : State) : StepResult :=
  unimplemented s

/-- `LDUNCI`, status N: 44_loads.md R317, 30_encoding.md R114. -/
def execLdunci (s : State) : StepResult :=
  unimplemented s

/-- `LDVTS`, status N: 44_loads.md R318, 30_encoding.md R114. -/
def execLdvts (s : State) : StepResult :=
  unimplemented s

/-- `LDVTSI`, status N: 44_loads.md R319, 30_encoding.md R114. -/
def execLdvtsi (s : State) : StepResult :=
  unimplemented s

/-- `PRELD`, status N: 44_loads.md R320, 30_encoding.md R114. -/
def execPreld (s : State) : StepResult :=
  unimplemented s

/-- `PRELDI`, status N: 44_loads.md R321, 30_encoding.md R114. -/
def execPreldi (s : State) : StepResult :=
  unimplemented s

/-- `PREGO`, status N: 44_loads.md R322, 30_encoding.md R114. -/
def execPrego (s : State) : StepResult :=
  unimplemented s

/-- `PREGOI`, status N: 44_loads.md R323, 30_encoding.md R114. -/
def execPregoi (s : State) : StepResult :=
  unimplemented s

end Sys2Proof.Machine
end

