-- ==== Sys2Proof/Machine/Stores.lean ====
section
/-! DEFINITION. Stores and the status-N opcodes among them: 0xA0 .. 0xBD (spec/45_stores.md). -/

namespace Sys2Proof.Machine

/-- A signed store of the low n bytes of x[X], with V when s(x[X]) does not fit (45_stores.md R332). -/
def storeSigned (s : State) (x : Byte) (A : Octa) (n : Nat) : StepResult :=
  store s A n ((reg s x).toNat % 2 ^ (8 * n)) (narrowEvents n (reg s x))

/-- An unsigned store of the low n bytes of x[X] (45_stores.md R332). -/
def storeUnsigned (s : State) (x : Byte) (A : Octa) (n : Nat) : StepResult :=
  store s A n ((reg s x).toNat % 2 ^ (8 * n)) []

/-- STSF: x[X] rounded to a short float; a NaN stores as some short NaN (45_stores.md R349,
40_floating_point.md R133). -/
def storeShort (s : State) (x : Byte) (A : Octa) : StepResult :=
  match toShort (roundingMode s) (enabled s .U) (reg s x) with
  | (some t, es) => store s A 4 t es
  | (none, es) => store (drawn s) A 4 (shortNanOf (anyValue s)) es

/-- `STB`: 45_stores.md R333. -/
def execStb (x y z : Byte) (s : State) : StepResult :=
  storeSigned s x (addrReg s y z) 1

/-- `STBI`: 45_stores.md R334. -/
def execStbi (x y z : Byte) (s : State) : StepResult :=
  storeSigned s x (addrImm s y z) 1

/-- `STBU`: 45_stores.md R335. -/
def execStbu (x y z : Byte) (s : State) : StepResult :=
  storeUnsigned s x (addrReg s y z) 1

/-- `STBUI`: 45_stores.md R336. -/
def execStbui (x y z : Byte) (s : State) : StepResult :=
  storeUnsigned s x (addrImm s y z) 1

/-- `STW`: 45_stores.md R337. -/
def execStw (x y z : Byte) (s : State) : StepResult :=
  storeSigned s x (addrReg s y z) 2

/-- `STWI`: 45_stores.md R338. -/
def execStwi (x y z : Byte) (s : State) : StepResult :=
  storeSigned s x (addrImm s y z) 2

/-- `STWU`: 45_stores.md R339. -/
def execStwu (x y z : Byte) (s : State) : StepResult :=
  storeUnsigned s x (addrReg s y z) 2

/-- `STWUI`: 45_stores.md R340. -/
def execStwui (x y z : Byte) (s : State) : StepResult :=
  storeUnsigned s x (addrImm s y z) 2

/-- `STT`: 45_stores.md R341. -/
def execStt (x y z : Byte) (s : State) : StepResult :=
  storeSigned s x (addrReg s y z) 4

/-- `STTI`: 45_stores.md R342. -/
def execStti (x y z : Byte) (s : State) : StepResult :=
  storeSigned s x (addrImm s y z) 4

/-- `STTU`: 45_stores.md R343. -/
def execSttu (x y z : Byte) (s : State) : StepResult :=
  storeUnsigned s x (addrReg s y z) 4

/-- `STTUI`: 45_stores.md R344. -/
def execSttui (x y z : Byte) (s : State) : StepResult :=
  storeUnsigned s x (addrImm s y z) 4

/-- `STO`: 45_stores.md R345. -/
def execSto (x y z : Byte) (s : State) : StepResult :=
  storeUnsigned s x (addrReg s y z) 8

/-- `STOI`: 45_stores.md R346. -/
def execStoi (x y z : Byte) (s : State) : StepResult :=
  storeUnsigned s x (addrImm s y z) 8

/-- `STOU`: 45_stores.md R347. -/
def execStou (x y z : Byte) (s : State) : StepResult :=
  storeUnsigned s x (addrReg s y z) 8

/-- `STOUI`: 45_stores.md R348. -/
def execStoui (x y z : Byte) (s : State) : StepResult :=
  storeUnsigned s x (addrImm s y z) 8

/-- `STSF`: 45_stores.md R349. -/
def execStsf (x y z : Byte) (s : State) : StepResult :=
  storeShort s x (addrReg s y z)

/-- `STSFI`: 45_stores.md R350. -/
def execStsfi (x y z : Byte) (s : State) : StepResult :=
  storeShort s x (addrImm s y z)

/-- `STHT`: 45_stores.md R351. -/
def execStht (x y z : Byte) (s : State) : StepResult :=
  store s (addrReg s y z) 4 ((reg s x).toNat / 2 ^ 32) []

/-- `STHTI`: 45_stores.md R352. -/
def execSthti (x y z : Byte) (s : State) : StepResult :=
  store s (addrImm s y z) 4 ((reg s x).toNat / 2 ^ 32) []

/-- `STCO`: 45_stores.md R353. -/
def execStco (x y z : Byte) (s : State) : StepResult :=
  store s (addrReg s y z) 8 x.toNat []

/-- `STCOI`: 45_stores.md R354. -/
def execStcoi (x y z : Byte) (s : State) : StepResult :=
  store s (addrImm s y z) 8 x.toNat []

/-- `STUNC`, status N: 45_stores.md R355, 30_encoding.md R114. -/
def execStunc (s : State) : StepResult :=
  unimplemented s

/-- `STUNCI`, status N: 45_stores.md R356, 30_encoding.md R114. -/
def execStunci (s : State) : StepResult :=
  unimplemented s

/-- `SYNCD`, status N: 45_stores.md R357, 30_encoding.md R114. -/
def execSyncd (s : State) : StepResult :=
  unimplemented s

/-- `SYNCDI`, status N: 45_stores.md R358, 30_encoding.md R114. -/
def execSyncdi (s : State) : StepResult :=
  unimplemented s

/-- `PREST`, status N: 45_stores.md R359, 30_encoding.md R114. -/
def execPrest (s : State) : StepResult :=
  unimplemented s

/-- `PRESTI`, status N: 45_stores.md R360, 30_encoding.md R114. -/
def execPresti (s : State) : StepResult :=
  unimplemented s

/-- `SYNCID`, status N: 45_stores.md R361, 30_encoding.md R114. -/
def execSyncid (s : State) : StepResult :=
  unimplemented s

/-- `SYNCIDI`, status N: 45_stores.md R362, 30_encoding.md R114. -/
def execSyncidi (s : State) : StepResult :=
  unimplemented s

end Sys2Proof.Machine
end

