-- ==== Sys2Proof/Machine/System.lean ====
section
/-! DEFINITION. TRAP, PUT, GET, SWYM and the status-N system opcodes (spec/49_system.md). -/

namespace Sys2Proof.Machine

/-- Whether `PUT n` is ever legal: n names a special register and is not one of 8 .. 18 (49_system.md R451 a, b). -/
def putNumberLegal (n : Byte) : Bool :=
  decide (n.toNat < 32) && !(decide (8 ≤ n.toNat) && decide (n.toNat ≤ 18))

/-- Whether v may be PUT into special register n: rA holds 18 bits, rG is 32 .. 255 (49_system.md R451 c, d). -/
def putValueLegal (n : Byte) (v : Octa) : Bool :=
  if n = 21 then decide (v.toNat < 2 ^ 18)
  else if n = 19 then decide (32 ≤ v.toNat) && decide (v.toNat ≤ 255)
  else true

/-- The globals after rG goes from `old` to `new`: those that become addressable, G[new] .. G[old - 1], hold free
values (49_system.md R451; log entry 14). Every other global keeps its cell, the hidden ones too (DEDUCED, unsafe where
the global stays addressable: log entry 14), and so does every local (10_state.md R22). Global G[k] is at index k - 32. -/
def exposeGlobals (s : State) (old new : Nat) : State :=
  if new < old then
    { s with
      globals := Vector.ofFn fun i : Fin 224 =>
        if new ≤ i.val + 32 ∧ i.val + 32 < old then Config.draw (s.draws + i.val) else s.globals[i.val]
      draws := s.draws + 224 }
  else s

/-- `g[n] <- v` of a legal PUT (49_system.md R451 e). -/
def putSpecial (s : State) (n : Fin 32) (v : Octa) : State :=
  setSpecial (if n = rG then exposeGlobals s (special s rG).toNat v.toNat else s) n v

/-- A special register number as an index; the callers have checked that it is below 32. -/
def specialIndex (n : Byte) : Fin 32 :=
  Fin.ofNat 32 n.toNat

/-- `TRAP`: 49_system.md R453. OS_TRAP(Y, state) is a next state or the end of the
run; OsTrapUnmodelled(Y) where the run has no OS_TRAP (49_system.md R452; log entries 7, 8). -/
def execTrap (x y z : Byte) (s : State) : StepResult :=
  if x = 0 ∧ z = 0 then
    match s.launch.osTrap with
    | none => .refused (.osTrapUnmodelled y)
    | some os =>
      if y ∈ os.mayEnd ∧ Config.osTrapEnds y s then raise (.runEnded y (Config.osExitStatus y s))
      else .next (hostResult s (Config.osTrap y s))
  else illegal (.trap x y z)

/-- `PUT`: 49_system.md R454. -/
def execPut (x y z : Byte) (s : State) : StepResult :=
  withZeroY y (.put x y z)
    (if putNumberLegal x ∧ putValueLegal x (reg s z) then next (putSpecial s (specialIndex x) (reg s z))
     else illegal (.put x y z))

/-- `PUTI`, status N: 49_system.md R455, 30_encoding.md R114. -/
def execPuti (s : State) : StepResult :=
  unimplemented s

/-- `RESUME`, status N: 49_system.md R456, 30_encoding.md R114. -/
def execResume (s : State) : StepResult :=
  unimplemented s

/-- `SAVE`, status N: 49_system.md R457, 30_encoding.md R114. -/
def execSave (s : State) : StepResult :=
  unimplemented s

/-- `UNSAVE`, status N: 49_system.md R458, 30_encoding.md R114. -/
def execUnsave (s : State) : StepResult :=
  unimplemented s

/-- `SYNC`, status N: 49_system.md R459, 30_encoding.md R114. -/
def execSync (s : State) : StepResult :=
  unimplemented s

/-- `SWYM`: 49_system.md R460. The bytes X, Y, Z are ignored. -/
def execSwym (s : State) : StepResult :=
  next s

/-- `GET`: 49_system.md R461. rC, rI and rU (8, 12, 17) deliver any value
(10_state.md R34). -/
def execGet (x y z : Byte) (s : State) : StepResult :=
  withZeroY y (.get x y z)
    (if z.toNat < 32 then
      if z = 8 ∨ z = 12 ∨ z = 17 then resultAny s x id [] else result s x (special s (specialIndex z))
     else illegal (.get x y z))

/-- `TRIP`, status N: 49_system.md R462, 30_encoding.md R114. -/
def execTrip (s : State) : StepResult :=
  unimplemented s

end Sys2Proof.Machine
end

