-- ==== Sys2Proof/Machine/WydeImmediate.lean ====
section
/-! DEFINITION. Wyde immediates: opcodes 0xE0 .. 0xEF (spec/47_wyde_immediate.md). -/

namespace Sys2Proof.Machine

/-- `SETH`: 47_wyde_immediate.md R412. -/
def execSeth (x : Byte) (yz : Wyde) (s : State) : StepResult :=
  result s x (wydeAt 48 yz)

/-- `SETMH`: 47_wyde_immediate.md R413. -/
def execSetmh (x : Byte) (yz : Wyde) (s : State) : StepResult :=
  result s x (wydeAt 32 yz)

/-- `SETML`: 47_wyde_immediate.md R414. -/
def execSetml (x : Byte) (yz : Wyde) (s : State) : StepResult :=
  result s x (wydeAt 16 yz)

/-- `SETL`: 47_wyde_immediate.md R415. -/
def execSetl (x : Byte) (yz : Wyde) (s : State) : StepResult :=
  result s x (wydeAt 0 yz)

/-- `INCH`: 47_wyde_immediate.md R416. -/
def execInch (x : Byte) (yz : Wyde) (s : State) : StepResult :=
  result s x (reg s x + wydeAt 48 yz)

/-- `INCMH`: 47_wyde_immediate.md R417. -/
def execIncmh (x : Byte) (yz : Wyde) (s : State) : StepResult :=
  result s x (reg s x + wydeAt 32 yz)

/-- `INCML`: 47_wyde_immediate.md R418. -/
def execIncml (x : Byte) (yz : Wyde) (s : State) : StepResult :=
  result s x (reg s x + wydeAt 16 yz)

/-- `INCL`: 47_wyde_immediate.md R419. -/
def execIncl (x : Byte) (yz : Wyde) (s : State) : StepResult :=
  result s x (reg s x + wydeAt 0 yz)

/-- `ORH`: 47_wyde_immediate.md R420. -/
def execOrh (x : Byte) (yz : Wyde) (s : State) : StepResult :=
  result s x (reg s x ||| wydeAt 48 yz)

/-- `ORMH`: 47_wyde_immediate.md R421. -/
def execOrmh (x : Byte) (yz : Wyde) (s : State) : StepResult :=
  result s x (reg s x ||| wydeAt 32 yz)

/-- `ORML`: 47_wyde_immediate.md R422. -/
def execOrml (x : Byte) (yz : Wyde) (s : State) : StepResult :=
  result s x (reg s x ||| wydeAt 16 yz)

/-- `ORL`: 47_wyde_immediate.md R423. -/
def execOrl (x : Byte) (yz : Wyde) (s : State) : StepResult :=
  result s x (reg s x ||| wydeAt 0 yz)

/-- `ANDNH`: 47_wyde_immediate.md R424. -/
def execAndnh (x : Byte) (yz : Wyde) (s : State) : StepResult :=
  result s x (reg s x &&& ~~~wydeAt 48 yz)

/-- `ANDNMH`: 47_wyde_immediate.md R425. -/
def execAndnmh (x : Byte) (yz : Wyde) (s : State) : StepResult :=
  result s x (reg s x &&& ~~~wydeAt 32 yz)

/-- `ANDNML`: 47_wyde_immediate.md R426. -/
def execAndnml (x : Byte) (yz : Wyde) (s : State) : StepResult :=
  result s x (reg s x &&& ~~~wydeAt 16 yz)

/-- `ANDNL`: 47_wyde_immediate.md R427. -/
def execAndnl (x : Byte) (yz : Wyde) (s : State) : StepResult :=
  result s x (reg s x &&& ~~~wydeAt 0 yz)

end Sys2Proof.Machine
end

