-- ==== Sys2Proof/Machine/Fetch.lean ====
section
/-! DEFINITION. Instruction fetch (spec/20_memory.md R77) and the placing of an instruction word in memory. -/

namespace Sys2Proof.Machine

/-- The four bytes at pc: OP, X, Y, Z in rising address order (20_memory.md R77, 30_encoding.md R91). -/
def fetchBytes (s : State) : List Byte :=
  (List.range 4).map fun i => Memory.byteAt s.memory (s.pc.toNat + i)

/-- The instruction at pc, or the fault of its fetch (20_memory.md R77, 30_encoding.md R119). The decoder reads an
instruction from every four bytes, so its refusal does not occur; it is reported as an illegal instruction. -/
def fetch (s : State) : Except Fault Instr :=
  if s.pc.toNat % 4 ≠ 0 then .error (.misalignedFetch s.pc)
  else if !allAllowed s.launch .fetch s.pc.toNat 4 then .error (.memoryFault s.pc 4 .fetch)
  else
    match decode (fetchBytes s) with
    | .ok (i, _) => .ok i
    | .error _ => .error (.illegalInstruction (BitVec.ofNat 32 (Memory.readNat s.memory s.pc.toNat 4)))

/-- The pc with its low two bits cleared. -/
def alignPc (s : State) : State :=
  { s with pc := s.pc - BitVec.ofNat 64 (s.pc.toNat % 4) }

/-- The four bytes at pc executable: a region for them is mapped where they are not. -/
def executableAt (s : State) : State :=
  if allAllowed s.launch .fetch s.pc.toNat 4 then s
  else
    { s with launch := { s.launch with mapped := { base := s.pc.toNat, size := 4, read := false, write := false, execute := true } :: s.launch.mapped } }

/-- The word stored at pc, big-endian (20_memory.md R63, R77). -/
def placeWord (s : State) (w : Nat) : State :=
  { s with memory := Memory.writeNat s.memory s.pc.toNat 4 w }

end Sys2Proof.Machine
end

