-- ==== Sys2Proof/Machine/Step.lean ====
section
/-! DEFINITION. One step: fetch, decode, execute (spec/70_reset_and_hazards.md R514), and the placing of an instruction
where the next step fetches. -/

namespace Sys2Proof.Machine

/-- One step of the machine (60_exceptions.md R470, R474; 30_encoding.md R119). -/
def step (s : State) : Host.Outcome State Fault Refusal :=
  match fetch s with
  | .error f => raise f
  | .ok i => exec i s

/-- s with the instruction whose bits are the low nbits bits of w stored where the next step fetches (log entry 20):
the four bytes of the word at pc, big-endian. Where pc is no multiple of 4 its low bits are cleared first, and where
the four bytes are not executable a region for them is mapped. -/
def State.withFetchWord (s : State) (nbits w : Nat) : State :=
  placeWord (executableAt (alignPc s)) (w % 2 ^ nbits)

end Sys2Proof.Machine
end

