-- ==== Sys2Proof/Safety.lean ====
section
/-! DEFINITION. The terms in which claims about the machine are stated: what an instruction leaves unchanged, what its
events may do to rA, which data accesses are good, what it means that a program reaches a stop address
(spec/70_reset_and_hazards.md R510), and the rational numbers that floating-point patterns stand for. -/

namespace Sys2Proof.Machine

/-! ## Frames -/

/-- Every general register cell holds in t what it holds in s. -/
def RegsSame (s t : State) : Prop :=
  ∀ r : RegRef, readRef t r = readRef s r

/-- Every general register cell but the one that operand byte x names in s holds in t what it holds in s. -/
def OtherRegsSame (s t : State) (x : Byte) : Prop :=
  ∀ r : RegRef, r ≠ cellOf s x → readRef t r = readRef s r

/-- Every special register outside ns holds in t what it holds in s. -/
def SpecialsSame (s t : State) (ns : List (Fin 32)) : Prop :=
  ∀ n : Fin 32, n ∉ ns → special t n = special s n

/-- Every byte of memory reads in t as in s. -/
def MemorySame (s t : State) : Prop :=
  ∀ a : Nat, Memory.byteAt t.memory a = Memory.byteAt s.memory a

/-- Every byte of memory but the n bytes from a on reads in t as in s. -/
def MemorySameOutside (s t : State) (a n : Nat) : Prop :=
  ∀ b : Nat, b < a ∨ a + n ≤ b → Memory.byteAt t.memory b = Memory.byteAt s.memory b

/-- The parameters of the run and the linkage's own state are in t as in s. -/
def LaunchSame (s t : State) : Prop :=
  t.launch = s.launch ∧ t.linkage = s.linkage

/-- rA in t is rA in s, except that event bits of the events es may have become 1 (60_exceptions.md R472). -/
def EventsNoted (s t : State) (es : List Event) : Prop :=
  ∀ i : Nat, (special t rA).getLsbD i = (special s rA).getLsbD i ∨
    ((special t rA).getLsbD i = true ∧ ∃ e ∈ es, i = e.bit)

/-- No event of es has its enable bit set in rA (60_exceptions.md R472). -/
def NoneEnabled (s : State) (es : List Event) : Prop :=
  ∀ e ∈ es, enabled s e = false

/-- t is s after an instruction that writes v to x[X], notes the events es in rA, may write the special registers ns,
goes on at the address p and changes nothing else. -/
def WritesRegAt (s t : State) (x : Byte) (v : Octa) (es : List Event) (ns : List (Fin 32)) (p : Octa) : Prop :=
  reg t x = v ∧ OtherRegsSame s t x ∧ SpecialsSame s t (rA :: ns) ∧ EventsNoted s t es ∧ MemorySame s t ∧
    LaunchSame s t ∧ t.pc = p

/-- As `WritesRegAt`, going on at pc + 4. -/
def WritesReg (s t : State) (x : Byte) (v : Octa) (es : List Event) (ns : List (Fin 32)) : Prop :=
  WritesRegAt s t x v es ns (s.pc + 4)

/-- How an instruction ends whose only effects are a value with the property P in x[X], the special registers ns
(which then hold what Q says of the next state) and the events es: with a next state where none of es is enabled, else
with the fault of the first enabled one (60_exceptions.md R472). -/
def Delivers (i : Instr) (s : State) (x : Byte) (P : Octa → Prop) (es : List Event) (ns : List (Fin 32) := [])
    (Q : State → Prop := fun _ => True) : Prop :=
  (NoneEnabled s es → ∃ t v, exec i s = .next t ∧ P v ∧ WritesReg s t x v es ns ∧ Q t) ∧
    ∀ first e rest, es = first ++ e :: rest → NoneEnabled s first → enabled s e = true →
      exec i s = .fault (.tripUnsupported e)

/-- t is s after an instruction that goes on at the address p and changes nothing else. -/
def OnlyPc (s t : State) (p : Octa) : Prop :=
  RegsSame s t ∧ SpecialsSame s t [] ∧ MemorySame s t ∧ LaunchSame s t ∧ t.pc = p

/-- t is s after an instruction that stores the n bytes of the number v at the address a, big-endian, notes the events
es in rA, goes on at pc + 4 and changes nothing else. -/
def StoresBytes (s t : State) (a n v : Nat) (es : List Event) : Prop :=
  (∀ i < n, (Memory.byteAt t.memory (a + i)).toNat = v / 256 ^ (n - 1 - i) % 256) ∧ MemorySameOutside s t a n ∧
    RegsSame s t ∧ SpecialsSame s t [rA] ∧ EventsNoted s t es ∧ LaunchSame s t ∧ t.pc = s.pc + 4

/-! ## Integers -/

/-- The integer r is a two's-complement number of n bits (00_scope.md R8). -/
def FitsSigned (n : Nat) (r : Int) : Prop :=
  -(2 ^ (n - 1)) ≤ r ∧ r ≤ 2 ^ (n - 1) - 1

/-- The events of a signed result r: V where it is no two's-complement number of n bits (60_exceptions.md R473). -/
def overflowOf (n : Nat) (r : Int) : List Event :=
  if -(2 ^ (n - 1)) ≤ r ∧ r ≤ 2 ^ (n - 1) - 1 then [] else [.V]

/-! ## Opcodes -/

/-- The thirty opcodes of status N (30_encoding.md R114). -/
def statusN : List Byte :=
  [0x02, 0x11, 0x12, 0x13, 0x94, 0x95, 0x96, 0x97, 0x98, 0x99, 0x9A, 0x9B, 0x9C, 0x9D, 0xB6, 0xB7, 0xB8,
   0xB9, 0xBA, 0xBB, 0xBC, 0xBD, 0xF2, 0xF3, 0xF7, 0xF9, 0xFA, 0xFB, 0xFC, 0xFF]

/-- The opcodes of format 15, whose bytes X, Y, Z are ignored: RET and SWYM (30_encoding.md R109). -/
def format15 : List Byte :=
  [0xF8, 0xFD]

/-- The opcodes whose effect comes from outside the machine: TRAP (49_system.md R452), CALL, CALLI, RET
(48_control_transfer.md R432). -/
def hostOpcodes : List Byte :=
  [0x00, 0xBE, 0xBF, 0xF8]

/-- The opcodes that store to memory: 0xA0 .. 0xB5 (45_stores.md). -/
def isStore (op : Byte) : Bool :=
  decide (0xA0 ≤ op.toNat) && decide (op.toNat ≤ 0xB5)

/-! ## Data accesses -/

/-- B is the address that a data access of n bytes at A uses: A itself where it is aligned, the enclosing multiple of n
where it is not and MISALIGN is truncate (20_memory.md R66). -/
def UsesAddress (s : State) (A : Octa) (n : Nat) (B : Octa) : Prop :=
  (A.toNat % n = 0 ∧ B = A) ∨
    (A.toNat % n ≠ 0 ∧ s.launch.misalign = .truncate ∧ B.toNat = A.toNat - A.toNat % n)

/-- All n bytes from B on have the permission for this kind of access (20_memory.md R67). -/
def Permitted (s : State) (kind : AccessKind) (B : Octa) (n : Nat) : Prop :=
  ∀ i < n, allowed s.launch kind (B.toNat + i) = true

/-! ## Runs -/

/-- In k steps the run goes from s to t, and t is the first state of it at the stop address (70_reset_and_hazards.md
R510: the instruction at the stop address is not executed). -/
def Reaches (stop : Octa) : Nat → State → State → Prop
  | 0, s, t => s = t ∧ s.pc = stop
  | k + 1, s, t => s.pc ≠ stop ∧ ∃ u, step s = .next u ∧ Reaches stop k u t

/-- A safe run: k steps end neither in a fault nor at an unmodelled point (60_exceptions.md R470). -/
def SafeFor (k : Nat) (s : State) : Prop :=
  ∃ t, Sys2Proof.core.run k s = .next t

/-! ## Floating-point values -/

/-- The number (-1)^neg * mant * 2^exp. -/
def rationalOf (neg : Bool) (mant : Nat) (exp : Int) : Rat :=
  (if neg then -1 else 1) * (mant : Rat) * (2 : Rat) ^ exp

/-- The number that a pattern stands for, 0 for infinities and NaNs. -/
def Fp.value : Fp → Rat
  | .fin neg m e => rationalOf neg m e
  | _ => 0

/-- y is below z as extended real numbers; a NaN is below nothing and above nothing (40_floating_point.md R135). -/
def Fp.Below : Fp → Fp → Prop
  | .inf a, .inf b => a = true ∧ b = false
  | .inf a, .fin _ _ _ => a = true
  | .fin _ _ _, .inf b => b = false
  | .fin a m e, .fin b k f => rationalOf a m e < rationalOf b k f
  | _, _ => False

/-- The two patterns are equal as extended real numbers with a sign, or both NaNs. -/
def Fp.SameNumber : Fp → Fp → Prop
  | .nan _, .nan _ => True
  | .inf a, .inf b => a = b
  | .fin a m e, .fin b k f => a = b ∧ rationalOf a m e = rationalOf b k f
  | _, _ => False

/-- The natural number n is the magnitude q of a number with this sign, rounded to an integer in the mode rm
(40_floating_point.md R131). -/
def RoundsTo (rm : Rounding) (neg : Bool) (q : Rat) (n : Nat) : Prop :=
  match rm with
  | .near => |q - n| ≤ 1 / 2 ∧ (|q - n| = 1 / 2 → n % 2 = 0)
  | .off => (n : Rat) ≤ q ∧ q < n + 1
  | .up => if neg then (n : Rat) ≤ q ∧ q < n + 1 else q ≤ n ∧ (n : Rat) < q + 1
  | .down => if neg then q ≤ n ∧ (n : Rat) < q + 1 else (n : Rat) ≤ q ∧ q < n + 1

/-- The magnitude mant * 2^exp. -/
def Exact.magnitude (v : Exact) : Rat :=
  (v.mant : Rat) * (2 : Rat) ^ v.exp

/-- v stands for the magnitude q: it is q, or its mant is odd, has at least 60 bits, and q lies strictly between the
two even neighbours of mant (log entry 22). -/
def Exact.standsFor (v : Exact) (q : Rat) : Prop :=
  v.mant ≠ 0 ∧ (v.magnitude = q ∨
    (v.mant % 2 = 1 ∧ 2 ^ 59 ≤ v.mant ∧ ((v.mant : Rat) - 1) * (2 : Rat) ^ v.exp < q ∧
      q < ((v.mant : Rat) + 1) * (2 : Rat) ^ v.exp))

end Sys2Proof.Machine
end

