-- ==== Sys2Proof/Certificates/Slice0/Obligations.lean ====
section
/-! DEFINITION. The statements about the machine. Most say what an instruction of the spec does: that exec answers a
next state, what it holds and what it leaves unchanged (the terms are those of Sys2Proof/Safety.lean). -/

open Sys2Proof Sys2Proof.Machine

/-- O1. Decoding undoes encoding, for every instruction and every operand value (30_encoding.md R90, R91, R112). -/
def Obligations.DecodeOfEncode : Prop :=
  ∀ (i : Instr) (rest : List Byte), decode (encode i ++ rest) = .ok (i, rest)

/-- O2. Every word decodes, by its opcode alone (30_encoding.md R112, R116), and encoding undoes decoding wherever the bytes
are examined (log entry 18). -/
def Obligations.EveryWordDecodes : Prop :=
  ∀ (op x y z : Byte) (rest : List Byte), ∃ i, decode (op :: x :: y :: z :: rest) = .ok (i, rest) ∧ i.opcode = op ∧
    (op ∉ statusN ++ format15 → encode i = [op, x, y, z])

/-- O3. Nine words of the spec, decoded (30_encoding.md R112). -/
def Obligations.DecodesSpecWords : Prop :=
  [0x8C010203, 0x01010203, 0x34010A03, 0x41010004, 0x60010203, 0xB4FF0203, 0xC0010203, 0xE0011234, 0xF0123456].map
      (fun w => decodeTableWord 32 w) =
    [some (.ldo 1 2 3), some (.fcmp 1 2 3), some (.neg 1 10 3), some (.bnb 1 4), some (.csn 1 2 3),
      some (.stco 255 2 3), some (.or 1 2 3), some (.seth 1 0x1234), some (.jmp 0x123456)]

/-- O4. The checks of 30_encoding.md R115 and R119 (5), (6), and the register numbers of 49_system.md R451 (a), (b) and R461. -/
def Obligations.IllFormedInstructionsFault : Prop :=
  ∀ (i : Instr) (s : State), WellFormed i = false → exec i s = .fault (.illegalInstruction (word i))

/-- O5. One step is fetch, decode, execute (70_reset_and_hazards.md R514). -/
def Obligations.StepRunsTheDecodedInstruction : Prop :=
  ∀ (s : State) (i : Instr), s.pc.toNat % 4 = 0 → Permitted s .fetch s.pc 4 →
    decode ((List.range 4).map fun k => Memory.byteAt s.memory (s.pc.toNat + k)) = .ok (i, []) → step s = exec i s

/-- O6. The two faults of instruction fetch, in their order (20_memory.md R77, 60_exceptions.md R474). -/
def Obligations.FetchFaults : Prop :=
  ∀ s : State, (s.pc.toNat % 4 ≠ 0 → step s = .fault (.misalignedFetch s.pc)) ∧
    (s.pc.toNat % 4 = 0 → ¬ Permitted s .fetch s.pc 4 → step s = .fault (.memoryFault s.pc 4 .fetch))

/-- O7. The launch state (70_reset_and_hazards.md R501). The values of rG, rA and memory are the model's choice (log entries 1, 3,
4), and so is the absence of OS_TRAP and CALL_LINKAGE (log entries 7, 9; the defaults of 92_eei_decisions.md D12, D13). -/
def Obligations.ResetIsLegal : Prop :=
  legal State.reset ∧ State.reset.launch.misalign = .fault ∧ State.reset.launch.osTrap = none ∧
    State.reset.launch.callLinkage = false

/-- O8. 10_state.md R29 (rG is always 32 .. 255) and R27 (bits 63:18 of rA are always 0), with the canonical form of memory. -/
def Obligations.StepKeepsTheStateLegal : Prop :=
  ∀ s t : State, legal s → step s = .next t → legal t

/-- O9. 20_memory.md R67: Mapped does not change during a run; 70_reset_and_hazards.md R501: the parameters are fixed. -/
def Obligations.LaunchParametersAreFixed : Prop :=
  ∀ (i : Instr) (s t : State), exec i s = .next t →
    t.launch.misalign = s.launch.misalign ∧ t.launch.osTrap = s.launch.osTrap ∧
      t.launch.callLinkage = s.launch.callLinkage ∧ (i.opcode ≠ 0x00 → t.launch = s.launch)

/-- O10. 10_state.md R27: no instruction ever clears an event bit except PUT. -/
def Obligations.EventBitsAreSticky : Prop :=
  ∀ (i : Instr) (s t : State), exec i s = .next t → i.opcode ∉ hostOpcodes → (∀ y z, i ≠ .put 21 y z) →
    EventsNoted s t [.D, .V, .W, .I, .O, .U, .Z, .X]

/-- O11. 10_state.md R28 and R33: who writes the special registers; rA changes by events alone (60_exceptions.md R472). -/
def Obligations.SpecialRegistersAreWrittenByFewInstructions : Prop :=
  ∀ (i : Instr) (s t : State), exec i s = .next t → i.opcode ∉ hostOpcodes → i.opcode ≠ 0xF6 →
    SpecialsSame s t (rA :: (if i.opcode = 0x1A ∨ i.opcode = 0x1B then [rH] else []) ++
      (if 0x1C ≤ i.opcode.toNat ∧ i.opcode.toNat ≤ 0x1F then [rR] else [])) ∧
    EventsNoted s t [.D, .V, .W, .I, .O, .U, .Z, .X]

/-- O12. 10_state.md R38: no instruction other than loads, stores and fetch reaches memory. -/
def Obligations.OnlyStoresWriteMemory : Prop :=
  ∀ (i : Instr) (s t : State), exec i s = .next t → i.opcode ∉ hostOpcodes → isStore i.opcode = false →
    MemorySame s t

/-- O13. Who writes the general registers, family by family: 40_floating_point.md R136, 41_integer_arithmetic.md R162,
42_branches.md R213, 43_conditional.md R251, 44_loads.md R291, 45_stores.md R331, 46_bitwise.md R371, 47_wyde_immediate.md
R411, 48_control_transfer.md R433, 49_system.md R461. Left out are PUT, which may expose globals (49_system.md R451; log
entry 14), and TRAP, CALL, CALLI, RET, behind which the host acts. -/
def Obligations.OneGeneralRegisterIsWritten : Prop :=
  ∀ (i : Instr) (s t : State), exec i s = .next t → i.opcode ∉ hostOpcodes → i.opcode ≠ 0xF6 →
    OtherRegsSame s t i.operands.1

/-- O14. 10_state.md R24. -/
def Obligations.OperandResolution : Prop :=
  ∀ (s : State) (k : Byte) (v : Octa), 32 ≤ (special s rG).toNat →
    (∀ h : (special s rG).toNat ≤ k.toNat ∧ k.toNat - 32 < 224,
      reg s k = s.globals[k.toNat - 32] ∧ setReg s k v = { s with globals := s.globals.set (k.toNat - 32) v }) ∧
    (k.toNat < (special s rG).toNat →
      reg s k = s.locals[k.toNat] ∧ setReg s k v = { s with locals := s.locals.set k.toNat v })

/-- O15. 60_exceptions.md R472; whether a bit is set is a free value (log entry 12). -/
def Obligations.EventsFollowTheirRule : Prop :=
  ∀ (s : State) (es : List Event),
    (NoneEnabled s es → ∃ t, raiseEvents s es = .ok t ∧ EventsNoted s t es ∧ SpecialsSame s t [rA] ∧ RegsSame s t ∧
      t.memory = s.memory ∧ t.pc = s.pc ∧ LaunchSame s t) ∧
    ∀ first e rest, es = first ++ e :: rest → NoneEnabled s first → enabled s e = true →
      raiseEvents s es = .error (.tripUnsupported e)

/-- O16. 20_memory.md R63, R64, R65. -/
def Obligations.MemoryIsBigEndian : Prop :=
  ∀ (m : Memory) (a n v : Nat),
    Memory.readNat m a n = ((List.range n).map fun i => (Memory.byteAt m (a + i)).toNat * 256 ^ (n - 1 - i)).sum ∧
    (Memory.wf m → a + n ≤ 2 ^ 64 → Memory.wf (Memory.writeNat m a n v) ∧
      Memory.readNat (Memory.writeNat m a n v) a n = v % 2 ^ (8 * n) ∧
      ∀ b, b < a ∨ a + n ≤ b → Memory.byteAt (Memory.writeNat m a n v) b = Memory.byteAt m b)

/-- O17. 46_bitwise.md R374 to R381. -/
def Obligations.OrAndXorResults : Prop :=
  ∀ (s : State) (x y z : Byte), ∀ p ∈ (
      [(Instr.or x y z, reg s y ||| reg s z), (.ori x y z, reg s y ||| z.setWidth 64),
       (.orn x y z, reg s y ||| ~~~(reg s z)), (.orni x y z, reg s y ||| ~~~(z.setWidth 64)),
       (.nor x y z, ~~~(reg s y ||| reg s z)), (.nori x y z, ~~~(reg s y ||| z.setWidth 64)),
       (.xor x y z, reg s y ^^^ reg s z), (.xori x y z, reg s y ^^^ z.setWidth 64)] : List (Instr × Octa)),
    ∃ t, exec p.1 s = .next t ∧ WritesReg s t x p.2 [] []

/-- O18. 46_bitwise.md R382 to R389. -/
def Obligations.AndNandNxorResults : Prop :=
  ∀ (s : State) (x y z : Byte), ∀ p ∈ (
      [(Instr.and x y z, reg s y &&& reg s z), (.andi x y z, reg s y &&& z.setWidth 64),
       (.andn x y z, reg s y &&& ~~~(reg s z)), (.andni x y z, reg s y &&& ~~~(z.setWidth 64)),
       (.nand x y z, ~~~(reg s y &&& reg s z)), (.nandi x y z, ~~~(reg s y &&& z.setWidth 64)),
       (.nxor x y z, ~~~(reg s y ^^^ reg s z)), (.nxori x y z, ~~~(reg s y ^^^ z.setWidth 64))] : List (Instr × Octa)),
    ∃ t, exec p.1 s = .next t ∧ WritesReg s t x p.2 [] []

/-- O19. 46_bitwise.md R372 and R390 to R395; the subtraction is that of natural numbers, which is max(0, a - b). -/
def Obligations.LaneDifferences : Prop :=
  ∀ (s : State) (x y z : Byte), ∀ p ∈ (
      [(Instr.bdif x y z, 8, reg s z), (.bdifi x y z, 8, z.setWidth 64), (.wdif x y z, 16, reg s z),
       (.wdifi x y z, 16, z.setWidth 64), (.tdif x y z, 32, reg s z), (.tdifi x y z, 32, z.setWidth 64)] : List (Instr × Nat × Octa)),
    ∃ t v, exec p.1 s = .next t ∧ WritesReg s t x v [] [] ∧
      ∀ i, i < 64 / p.2.1 → v.toNat / 2 ^ (p.2.1 * i) % 2 ^ p.2.1 =
        (reg s y).toNat / 2 ^ (p.2.1 * i) % 2 ^ p.2.1 - p.2.2.toNat / 2 ^ (p.2.1 * i) % 2 ^ p.2.1

/-- O20. 46_bitwise.md R396 to R401. -/
def Obligations.OdifMuxSaddResults : Prop :=
  ∀ (s : State) (x y z : Byte), ∀ p ∈ (
      [(Instr.odif x y z, BitVec.ofNat 64 ((reg s y).toNat - (reg s z).toNat)),
       (.odifi x y z, BitVec.ofNat 64 ((reg s y).toNat - (z.setWidth 64).toNat)),
       (.mux x y z, (reg s y &&& special s rM) ||| ((reg s z) &&& ~~~special s rM)),
       (.muxi x y z, (reg s y &&& special s rM) ||| ((z.setWidth 64) &&& ~~~special s rM)),
       (.sadd x y z, BitVec.ofNat 64 ((List.range 64).countP fun i => (reg s y).getLsbD i && !((reg s z : Octa).getLsbD i))),
       (.saddi x y z, BitVec.ofNat 64 ((List.range 64).countP fun i => (reg s y).getLsbD i && !((z.setWidth 64 : Octa).getLsbD i)))] : List (Instr × Octa)),
    ∃ t, exec p.1 s = .next t ∧ WritesReg s t x p.2 [] []

/-- O21. 46_bitwise.md R373 and R402 to R405. -/
def Obligations.BitMatrixProducts : Prop :=
  ∀ (s : State) (x y z : Byte), ∀ p ∈ (
      [(Instr.mor x y z, .mxor x y z, reg s z), (.mori x y z, .mxori x y z, z.setWidth 64)] : List (Instr × Instr × Octa)),
    (∃ t v, exec p.1 s = .next t ∧ WritesReg s t x v [] [] ∧ ∀ r < 8, ∀ c < 8,
      (v.getLsbD (8 * r + c) = true ↔ ∃ k < 8, p.2.2.getLsbD (8 * r + k) = true ∧ (reg s y).getLsbD (8 * k + c) = true)) ∧
    (∃ t v, exec p.2.1 s = .next t ∧ WritesReg s t x v [] [] ∧ ∀ r < 8, ∀ c < 8,
      (v.getLsbD (8 * r + c) = true ↔
        ((List.range 8).countP fun k => p.2.2.getLsbD (8 * r + k) && (reg s y).getLsbD (8 * k + c)) % 2 = 1))

/-- O22. 41_integer_arithmetic.md R165, R166, R173, R174, R177, R178, R193. -/
def Obligations.SignedArithmetic : Prop :=
  ∀ (s : State) (x y z : Byte), ∀ p ∈ (
      [(Instr.add x y z, (reg s y).toInt + (reg s z).toInt), (.addi x y z, (reg s y).toInt + (z.toNat : Int)),
       (.sub x y z, (reg s y).toInt - (reg s z).toInt), (.subi x y z, (reg s y).toInt - (z.toNat : Int)),
       (.mul x y z, (reg s y).toInt * (reg s z).toInt), (.muli x y z, (reg s y).toInt * (z.toNat : Int)),
       (.neg x y z, (y.toNat : Int) - (reg s z).toInt)] : List (Instr × Int)),
    Delivers p.1 s x (fun v => v = BitVec.ofInt 64 p.2) (overflowOf 64 p.2)

/-- O23. 41_integer_arithmetic.md R175, R176, R179 to R188. -/
def Obligations.UnsignedArithmetic : Prop :=
  ∀ (s : State) (x y z : Byte), ∀ p ∈ (
      [(Instr.addu x y z, ((reg s y).toNat : Int) + ((reg s z).toNat : Int)),
       (.addui x y z, ((reg s y).toNat : Int) + (z.toNat : Int)),
       (.subu x y z, ((reg s y).toNat : Int) - ((reg s z).toNat : Int)),
       (.subui x y z, ((reg s y).toNat : Int) - (z.toNat : Int)),
       (.addu2 x y z, 2 * ((reg s y).toNat : Int) + ((reg s z).toNat : Int)),
       (.addu2i x y z, 2 * ((reg s y).toNat : Int) + (z.toNat : Int)),
       (.addu4 x y z, 4 * ((reg s y).toNat : Int) + ((reg s z).toNat : Int)),
       (.addu4i x y z, 4 * ((reg s y).toNat : Int) + (z.toNat : Int)),
       (.addu8 x y z, 8 * ((reg s y).toNat : Int) + ((reg s z).toNat : Int)),
       (.addu8i x y z, 8 * ((reg s y).toNat : Int) + (z.toNat : Int)),
       (.addu16 x y z, 16 * ((reg s y).toNat : Int) + ((reg s z).toNat : Int)),
       (.addu16i x y z, 16 * ((reg s y).toNat : Int) + (z.toNat : Int))] : List (Instr × Int)),
    ∃ t, exec p.1 s = .next t ∧ WritesReg s t x (BitVec.ofInt 64 p.2) [] []

/-- O24. 41_integer_arithmetic.md R194 to R196. -/
def Obligations.NegateWithoutEvents : Prop :=
  ∀ (s : State) (x y z : Byte), ∀ p ∈ (
      [(Instr.negi x y z, (y.toNat : Int) - z.toNat), (.negu x y z, (y.toNat : Int) - (reg s z).toNat),
       (.negui x y z, (y.toNat : Int) - z.toNat)] : List (Instr × Int)),
    ∃ t, exec p.1 s = .next t ∧ WritesReg s t x (BitVec.ofInt 64 p.2) [] []

/-- O25. 41_integer_arithmetic.md R167, R168. -/
def Obligations.MultiplyUnsigned : Prop :=
  ∀ (s : State) (x y z : Byte), ∀ p ∈ (
      [(Instr.mulu x y z, reg s z), (.mului x y z, z.setWidth 64)] : List (Instr × Octa)),
    ∃ t v, exec p.1 s = .next t ∧ WritesReg s t x v [] [rH] ∧ EventsNoted s t [] ∧
      v.toNat + 2 ^ 64 * (special t rH).toNat = (reg s y).toNat * p.2.toNat

/-- O26. 41_integer_arithmetic.md R164, R169, R170. -/
def Obligations.DivideSigned : Prop :=
  ∀ (s : State) (x y z : Byte), ∀ p ∈ (
      [(Instr.div x y z, reg s z), (.divi x y z, z.setWidth 64)] : List (Instr × Octa)),
    (p.2 = 0 → Delivers p.1 s x (fun v => v = 0) [.D] [rR] (fun t => special t rR = reg s y)) ∧
    ((reg s y).toInt = -2 ^ 63 → p.2.toInt = -1 →
      Delivers p.1 s x (fun v => v = 0x8000000000000000) [.V] [rR] (fun t => special t rR = 0)) ∧
    (p.2 ≠ 0 → ¬ ((reg s y).toInt = -2 ^ 63 ∧ p.2.toInt = -1) → ∃ q r : Int,
      (reg s y).toInt = q * p.2.toInt + r ∧ (0 ≤ r ∧ r < p.2.toInt ∨ p.2.toInt < r ∧ r ≤ 0) ∧
        Delivers p.1 s x (fun v => v = BitVec.ofInt 64 q) [] [rR] (fun t => special t rR = BitVec.ofInt 64 r))

/-- O27. 41_integer_arithmetic.md R171, R172. -/
def Obligations.DivideUnsigned : Prop :=
  ∀ (s : State) (x y z : Byte), ∀ p ∈ (
      [(Instr.divu x y z, reg s z), (.divui x y z, z.setWidth 64)] : List (Instr × Octa)),
    ∃ t v, exec p.1 s = .next t ∧ WritesReg s t x v [] [rR] ∧
      ((special s rD).toNat < p.2.toNat →
        (special s rD).toNat * 2 ^ 64 + (reg s y).toNat = v.toNat * p.2.toNat + (special t rR).toNat ∧
          (special t rR).toNat < p.2.toNat) ∧
      (p.2.toNat ≤ (special s rD).toNat → v = special s rD ∧ special t rR = reg s y)

/-- O28. 41_integer_arithmetic.md R189 to R192. -/
def Obligations.Comparisons : Prop :=
  ∀ (s : State) (x y z : Byte), ∀ p ∈ (
      [(Instr.cmp x y z, if (reg s y).toInt < (reg s z).toInt then 0xFFFFFFFFFFFFFFFF else if (reg s y).toInt > (reg s z).toInt then 1 else 0),
       (.cmpi x y z, if (reg s y).toInt < (z.toNat : Int) then 0xFFFFFFFFFFFFFFFF else if (reg s y).toInt > (z.toNat : Int) then 1 else 0),
       (.cmpu x y z, if (reg s y).toNat < (reg s z).toNat then 0xFFFFFFFFFFFFFFFF else if (reg s y).toNat > (reg s z).toNat then 1 else 0),
       (.cmpui x y z, if (reg s y).toNat < z.toNat then 0xFFFFFFFFFFFFFFFF else if (reg s y).toNat > z.toNat then 1 else 0)] : List (Instr × Octa)),
    ∃ t, exec p.1 s = .next t ∧ WritesReg s t x p.2 [] []

/-- O29. 41_integer_arithmetic.md R197, R198. -/
def Obligations.ShiftLeftSigned : Prop :=
  ∀ (s : State) (x y z : Byte), ∀ p ∈ (
      [(Instr.sl x y z, reg s z), (.sli x y z, z.setWidth 64)] : List (Instr × Octa)),
    (64 ≤ p.2.toNat → Delivers p.1 s x (fun v => v = 0) (if (reg s y).toInt = 0 then [] else [.V])) ∧
    (p.2.toNat < 64 → Delivers p.1 s x (fun v => v = BitVec.ofInt 64 ((reg s y).toInt * 2 ^ p.2.toNat))
      (overflowOf 64 ((reg s y).toInt * 2 ^ p.2.toNat)))

/-- O30. 41_integer_arithmetic.md R199 to R204; the division of integers by a positive number is the floor. -/
def Obligations.OtherShifts : Prop :=
  ∀ (s : State) (x y z : Byte), ∀ p ∈ (
      [(Instr.slu x y z, if 64 ≤ (reg s z).toNat then 0 else BitVec.ofNat 64 ((reg s y).toNat * 2 ^ (reg s z).toNat)),
       (.slui x y z, if 64 ≤ z.toNat then 0 else BitVec.ofNat 64 ((reg s y).toNat * 2 ^ z.toNat)),
       (.sr x y z, if 64 ≤ (reg s z).toNat then (if (reg s y).toInt < 0 then 0xFFFFFFFFFFFFFFFF else 0) else BitVec.ofInt 64 ((reg s y).toInt / 2 ^ (reg s z).toNat)),
       (.sri x y z, if 64 ≤ z.toNat then (if (reg s y).toInt < 0 then 0xFFFFFFFFFFFFFFFF else 0) else BitVec.ofInt 64 ((reg s y).toInt / 2 ^ z.toNat)),
       (.sru x y z, if 64 ≤ (reg s z).toNat then 0 else BitVec.ofNat 64 ((reg s y).toNat / 2 ^ (reg s z).toNat)),
       (.srui x y z, if 64 ≤ z.toNat then 0 else BitVec.ofNat 64 ((reg s y).toNat / 2 ^ z.toNat))] : List (Instr × Octa)),
    ∃ t, exec p.1 s = .next t ∧ WritesReg s t x p.2 [] []

/-- O31. 42_branches.md R210 to R213. The next state is equal to s but for the pc. -/
def Obligations.Branches : Prop :=
  ∀ (s : State) (x : Byte) (yz : Wyde), ∀ p ∈ (
      [(Instr.bn x yz, .bnb x yz, .pbn x yz, .pbnb x yz, decide ((reg s x).toInt < 0)),
       (.bz x yz, .bzb x yz, .pbz x yz, .pbzb x yz, decide (reg s x = 0)),
       (.bp x yz, .bpb x yz, .pbp x yz, .pbpb x yz, decide ((reg s x).toInt > 0)),
       (.bod x yz, .bodb x yz, .pbod x yz, .pbodb x yz, (reg s x).getLsbD 0),
       (.bnn x yz, .bnnb x yz, .pbnn x yz, .pbnnb x yz, decide ((reg s x).toInt ≥ 0)),
       (.bnz x yz, .bnzb x yz, .pbnz x yz, .pbnzb x yz, decide (reg s x ≠ 0)),
       (.bnp x yz, .bnpb x yz, .pbnp x yz, .pbnpb x yz, decide ((reg s x).toInt ≤ 0)),
       (.bev x yz, .bevb x yz, .pbev x yz, .pbevb x yz, !(reg s x).getLsbD 0)] :
        List (Instr × Instr × Instr × Instr × Bool)),
    exec p.1 s = .next { s with pc := if p.2.2.2.2 then s.pc + BitVec.ofNat 64 (4 * yz.toNat) else s.pc + 4 } ∧
    exec p.2.1 s =
      .next { s with pc := if p.2.2.2.2 then s.pc + BitVec.ofInt 64 (4 * yz.toNat - 262144) else s.pc + 4 } ∧
    exec p.2.2.1 s = exec p.1 s ∧ exec p.2.2.2.1 s = exec p.2.1 s

/-- O32. 43_conditional.md R250, R251. -/
def Obligations.ConditionalSets : Prop :=
  ∀ (s : State) (x y z : Byte), ∀ p ∈ (
      [(Instr.csn x y z, .zsn x y z, decide ((reg s y).toInt < 0), reg s z),
       (.csni x y z, .zsni x y z, decide ((reg s y).toInt < 0), z.setWidth 64),
       (.csz x y z, .zsz x y z, decide (reg s y = 0), reg s z),
       (.cszi x y z, .zszi x y z, decide (reg s y = 0), z.setWidth 64),
       (.csp x y z, .zsp x y z, decide ((reg s y).toInt > 0), reg s z),
       (.cspi x y z, .zspi x y z, decide ((reg s y).toInt > 0), z.setWidth 64),
       (.csod x y z, .zsod x y z, (reg s y).getLsbD 0, reg s z),
       (.csodi x y z, .zsodi x y z, (reg s y).getLsbD 0, z.setWidth 64),
       (.csnn x y z, .zsnn x y z, decide ((reg s y).toInt ≥ 0), reg s z),
       (.csnni x y z, .zsnni x y z, decide ((reg s y).toInt ≥ 0), z.setWidth 64),
       (.csnz x y z, .zsnz x y z, decide (reg s y ≠ 0), reg s z),
       (.csnzi x y z, .zsnzi x y z, decide (reg s y ≠ 0), z.setWidth 64),
       (.csnp x y z, .zsnp x y z, decide ((reg s y).toInt ≤ 0), reg s z),
       (.csnpi x y z, .zsnpi x y z, decide ((reg s y).toInt ≤ 0), z.setWidth 64),
       (.csev x y z, .zsev x y z, !(reg s y).getLsbD 0, reg s z),
       (.csevi x y z, .zsevi x y z, !(reg s y).getLsbD 0, z.setWidth 64)] :
        List (Instr × Instr × Bool × Octa)),
    (p.2.2.1 = true → ∃ t, exec p.1 s = .next t ∧ WritesReg s t x p.2.2.2 [] []) ∧
    (p.2.2.1 = false → ∃ t, exec p.1 s = .next t ∧ OnlyPc s t (s.pc + 4)) ∧
    ∃ t, exec p.2.1 s = .next t ∧ WritesReg s t x (if p.2.2.1 then p.2.2.2 else 0) [] []

/-- O33. 44_loads.md R290 to R292 and R312, with the alignment rule of 20_memory.md R66. -/
def Obligations.IntegerLoads : Prop :=
  ∀ (s : State) (x y z : Byte), ∀ p ∈ (
      [(Instr.ldb x y z, .ldbi x y z, 1, fun u => if u < 2 ^ 7 then u else u - 2 ^ 8),
       (.ldbu x y z, .ldbui x y z, 1, fun u => u),
       (.ldw x y z, .ldwi x y z, 2, fun u => if u < 2 ^ 15 then u else u - 2 ^ 16),
       (.ldwu x y z, .ldwui x y z, 2, fun u => u),
       (.ldt x y z, .ldti x y z, 4, fun u => if u < 2 ^ 31 then u else u - 2 ^ 32),
       (.ldtu x y z, .ldtui x y z, 4, fun u => u), (.ldo x y z, .ldoi x y z, 8, fun u => u),
       (.ldou x y z, .ldoui x y z, 8, fun u => u), (.ldht x y z, .ldhti x y z, 4, fun u => u * 2 ^ 32)] :
        List (Instr × Instr × Nat × (Int → Int))),
    ∀ q ∈ ([(p.1, reg s y + reg s z), (p.2.1, reg s y + z.setWidth 64)] : List (Instr × Octa)), ∀ B : Octa,
      UsesAddress s q.2 p.2.2.1 B → Permitted s .read B p.2.2.1 → ∃ t, exec q.1 s = .next t ∧
        WritesReg s t x (BitVec.ofInt 64 (p.2.2.2 (Memory.readNat s.memory B.toNat p.2.2.1))) [] []

/-- O34. 20_memory.md R64 to R67 and 60_exceptions.md R474. -/
def Obligations.DataAccessFaults : Prop :=
  ∀ (s : State) (x y z : Byte), ∀ p ∈ (
      [(Instr.ldb x y z, .ldbi x y z, 1, .read), (.ldbu x y z, .ldbui x y z, 1, .read),
       (.ldw x y z, .ldwi x y z, 2, .read), (.ldwu x y z, .ldwui x y z, 2, .read),
       (.ldt x y z, .ldti x y z, 4, .read), (.ldtu x y z, .ldtui x y z, 4, .read),
       (.ldo x y z, .ldoi x y z, 8, .read), (.ldou x y z, .ldoui x y z, 8, .read),
       (.ldht x y z, .ldhti x y z, 4, .read), (.ldsf x y z, .ldsfi x y z, 4, .read),
       (.stb x y z, .stbi x y z, 1, .write), (.stbu x y z, .stbui x y z, 1, .write),
       (.stw x y z, .stwi x y z, 2, .write), (.stwu x y z, .stwui x y z, 2, .write),
       (.stt x y z, .stti x y z, 4, .write), (.sttu x y z, .sttui x y z, 4, .write),
       (.sto x y z, .stoi x y z, 8, .write), (.stou x y z, .stoui x y z, 8, .write),
       (.stsf x y z, .stsfi x y z, 4, .write), (.stht x y z, .sthti x y z, 4, .write),
       (.stco x y z, .stcoi x y z, 8, .write)] :
        List (Instr × Instr × Nat × AccessKind)),
    ∀ q ∈ ([(p.1, reg s y + reg s z), (p.2.1, reg s y + z.setWidth 64)] : List (Instr × Octa)),
      (q.2.toNat % p.2.2.1 ≠ 0 → s.launch.misalign = .fault →
        exec q.1 s = .fault (.misalignedAccess q.2 p.2.2.1)) ∧
      ∀ B : Octa, UsesAddress s q.2 p.2.2.1 B → ¬ Permitted s p.2.2.2 B p.2.2.1 →
        exec q.1 s = .fault (.memoryFault B p.2.2.1 p.2.2.2)

/-- O35. 44_loads.md R310, R311; which NaN is a free value (log entry 13). -/
def Obligations.ShortFloatLoads : Prop :=
  ∀ (s : State) (x y z : Byte), ∀ p ∈ (
      [(Instr.ldsf x y z, reg s y + reg s z), (.ldsfi x y z, reg s y + z.setWidth 64)] : List (Instr × Octa)),
    ∀ B : Octa, UsesAddress s p.2 4 B → Permitted s .read B 4 →
      ∃ t v, exec p.1 s = .next t ∧ WritesReg s t x v [] [] ∧
        (fromShort (Memory.readNat s.memory B.toNat 4) = none → (unpackDouble v).isNaN = true) ∧
        ∀ d, fromShort (Memory.readNat s.memory B.toNat 4) = some d → v = d

/-- O36. 40_floating_point.md R133: the double numerically equal to the short float. -/
def Obligations.ShortFloatsConvertExactly : Prop :=
  ∀ t : Nat, t < 2 ^ 32 → (fromShort t = none ↔ (unpack shortFormat t).isNaN = true) ∧
    ∀ d, fromShort t = some d → Fp.SameNumber (unpack shortFormat t) (unpackDouble d)

/-- O37. 45_stores.md R330 to R332, R351, R353, with the alignment rule of 20_memory.md R66. -/
def Obligations.IntegerStores : Prop :=
  ∀ (s : State) (x y z : Byte), Memory.wf s.memory → ∀ p ∈ (
      [(Instr.stb x y z, .stbi x y z, 1, (reg s x).toNat % 2 ^ 8, overflowOf 8 (reg s x).toInt),
       (.stbu x y z, .stbui x y z, 1, (reg s x).toNat % 2 ^ 8, []),
       (.stw x y z, .stwi x y z, 2, (reg s x).toNat % 2 ^ 16, overflowOf 16 (reg s x).toInt),
       (.stwu x y z, .stwui x y z, 2, (reg s x).toNat % 2 ^ 16, []),
       (.stt x y z, .stti x y z, 4, (reg s x).toNat % 2 ^ 32, overflowOf 32 (reg s x).toInt),
       (.sttu x y z, .sttui x y z, 4, (reg s x).toNat % 2 ^ 32, []),
       (.sto x y z, .stoi x y z, 8, (reg s x).toNat % 2 ^ 64, []),
       (.stou x y z, .stoui x y z, 8, (reg s x).toNat % 2 ^ 64, []),
       (.stht x y z, .sthti x y z, 4, (reg s x).toNat / 2 ^ 32, []),
       (.stco x y z, .stcoi x y z, 8, x.toNat, [])] :
        List (Instr × Instr × Nat × Nat × List Event)),
    ∀ q ∈ ([(p.1, reg s y + reg s z), (p.2.1, reg s y + z.setWidth 64)] : List (Instr × Octa)), ∀ B : Octa,
      UsesAddress s q.2 p.2.2.1 B → Permitted s .write B p.2.2.1 →
        (NoneEnabled s p.2.2.2.2 → ∃ t, exec q.1 s = .next t ∧
          StoresBytes s t B.toNat p.2.2.1 p.2.2.2.1 p.2.2.2.2) ∧
        ∀ e ∈ p.2.2.2.2, enabled s e = true → exec q.1 s = .fault (.tripUnsupported e)

/-- O38. 45_stores.md R349, R350; which short NaN is a free value (log entry 13). -/
def Obligations.ShortFloatStores : Prop :=
  ∀ (s : State) (x y z : Byte), Memory.wf s.memory → ∀ p ∈ (
      [(Instr.stsf x y z, reg s y + reg s z), (.stsfi x y z, reg s y + z.setWidth 64)] : List (Instr × Octa)),
    ∀ B : Octa, UsesAddress s p.2 4 B → Permitted s .write B 4 → ∃ (v : Nat) (es : List Event),
      (match unpackDouble (reg s x) with
        | .nan signalling => v < 2 ^ 32 ∧ (unpack shortFormat v).isNaN = true ∧ es = if signalling then [.I] else []
        | .inf neg => v = packBits shortFormat neg (infinityBits shortFormat) ∧ es = []
        | .fin neg m e =>
          if m = 0 then v = packBits shortFormat neg 0 ∧ es = []
          else (v, es) = fpRound shortFormat (roundingMode s) (enabled s .U) ⟨neg, m, e⟩) ∧
      (NoneEnabled s es → ∃ t, exec p.1 s = .next t ∧ StoresBytes s t B.toNat 4 v es) ∧
      ∀ first e rest, es = first ++ e :: rest → NoneEnabled s first → enabled s e = true →
        exec p.1 s = .fault (.tripUnsupported e)

/-- O39. 47_wyde_immediate.md R410, R411. -/
def Obligations.WydeImmediates : Prop :=
  ∀ (s : State) (x : Byte) (yz : Wyde), ∀ p ∈ (
      [(Instr.seth x yz, .inch x yz, .orh x yz, .andnh x yz, 48),
       (.setmh x yz, .incmh x yz, .ormh x yz, .andnmh x yz, 32),
       (.setml x yz, .incml x yz, .orml x yz, .andnml x yz, 16),
       (.setl x yz, .incl x yz, .orl x yz, .andnl x yz, 0)] :
        List (Instr × Instr × Instr × Instr × Nat)),
    ∀ w : Octa, w = BitVec.ofNat 64 (yz.toNat * 2 ^ p.2.2.2.2) →
      (∃ t, exec p.1 s = .next t ∧ WritesReg s t x w [] []) ∧
      (∃ t, exec p.2.1 s = .next t ∧ WritesReg s t x (BitVec.ofNat 64 ((reg s x).toNat + w.toNat)) [] []) ∧
      (∃ t, exec p.2.2.1 s = .next t ∧ WritesReg s t x (reg s x ||| w) [] []) ∧
      ∃ t, exec p.2.2.2.1 s = .next t ∧ WritesReg s t x (reg s x &&& ~~~w) [] []

/-- O40. 48_control_transfer.md R433, R434, R431. -/
def Obligations.GoTransfers : Prop :=
  ∀ (s : State) (x y z : Byte), ∀ p ∈ (
      [(Instr.go x y z, reg s y + reg s z), (.goi x y z, reg s y + z.setWidth 64)] : List (Instr × Octa)),
    ∃ t, exec p.1 s = .next t ∧ WritesRegAt s t x (s.pc + 4) [] [] p.2

/-- O41. 48_control_transfer.md R437, R438, R441, R442 and 49_system.md R460. -/
def Obligations.JumpsGetaAndSwym : Prop :=
  ∀ (s : State) (x : Byte) (yz : Wyde) (xyz : BitVec 24),
    exec (.jmp xyz) s = .next { s with pc := s.pc + BitVec.ofNat 64 (4 * xyz.toNat) } ∧
    exec (.jmpb xyz) s = .next { s with pc := s.pc + BitVec.ofInt 64 (4 * xyz.toNat - 2 ^ 26) } ∧
    exec .swym s = .next { s with pc := s.pc + 4 } ∧
    (∃ t, exec (.geta x yz) s = .next t ∧ WritesReg s t x (s.pc + BitVec.ofNat 64 (4 * yz.toNat)) [] []) ∧
    ∃ t, exec (.getab x yz) s = .next t ∧ WritesReg s t x (s.pc + BitVec.ofInt 64 (4 * yz.toNat - 2 ^ 18)) [] []

/-- O42. 49_system.md R451 (e), R454. -/
def Obligations.PutWritesTheSpecialRegister : Prop :=
  ∀ (s : State) (n : Fin 32) (z : Byte), n ≠ rG → ¬ (8 ≤ n.val ∧ n.val ≤ 18) →
    (n = rA → (reg s z).toNat < 2 ^ 18) → ∃ t, exec (.put (BitVec.ofNat 8 n.val) 0 z) s = .next t ∧
      special t n = reg s z ∧ SpecialsSame s t [n] ∧ RegsSame s t ∧ MemorySame s t ∧ LaunchSame s t ∧
      t.pc = s.pc + 4

/-- O43. 49_system.md R451 (d), (e) for the new rG. The clauses that the locals and the globals outside the exposed ones keep their
values are the model's choice (log entry 14, from 10_state.md R22): R451 promises nothing of the globals that a raised rG
hides, and tells a program to write a global before reading it after any change of rG. -/
def Obligations.PutToTheGlobalThreshold : Prop :=
  ∀ (s : State) (z : Byte), 32 ≤ (reg s z).toNat → (reg s z).toNat ≤ 255 → ∃ t, exec (.put 19 0 z) s = .next t ∧
    special t rG = reg s z ∧ SpecialsSame s t [rG] ∧ t.locals = s.locals ∧ MemorySame s t ∧ LaunchSame s t ∧
    t.pc = s.pc + 4 ∧ ∀ i : Fin 224, ¬ ((reg s z).toNat ≤ i.val + 32 ∧ i.val + 32 < (special s rG).toNat) →
      t.globals[i.val] = s.globals[i.val]

/-- O44. 49_system.md R454, every check of it and the write where none fails. -/
def Obligations.PutFollowsItsChecks : Prop :=
  ∀ (s : State) (x y z : Byte), (y ≠ 0 ∨ x.toNat ≥ 32 ∨ (8 ≤ x.toNat ∧ x.toNat ≤ 18) ∨
      (x = 21 ∧ (reg s z).toNat ≥ 2 ^ 18) ∨ (x = 19 ∧ ((reg s z).toNat < 32 ∨ (reg s z).toNat > 255)) →
        exec (.put x y z) s = .fault (.illegalInstruction (word (.put x y z)))) ∧
    (¬ (y ≠ 0 ∨ x.toNat ≥ 32 ∨ (8 ≤ x.toNat ∧ x.toNat ≤ 18) ∨
      (x = 21 ∧ (reg s z).toNat ≥ 2 ^ 18) ∨ (x = 19 ∧ ((reg s z).toNat < 32 ∨ (reg s z).toNat > 255))) →
        ∃ t, exec (.put x y z) s = .next t ∧ special t (Fin.ofNat 32 x.toNat) = reg s z ∧ t.pc = s.pc + 4)

/-- O45. 49_system.md R461. -/
def Obligations.GetReadsTheSpecialRegister : Prop :=
  ∀ (s : State) (x y z : Byte),
    (y = 0 → z.toNat < 32 → ∃ t v, exec (.get x y z) s = .next t ∧ WritesReg s t x v [] [] ∧
      (z ≠ 8 → z ≠ 12 → z ≠ 17 → v = special s (Fin.ofNat 32 z.toNat))) ∧
    (y ≠ 0 ∨ 32 ≤ z.toNat → exec (.get x y z) s = .fault (.illegalInstruction (word (.get x y z))))

/-- O46. The two unmodelled points (60_exceptions.md R471). -/
def Obligations.OpenParametersAbsent : Prop :=
  ∀ (s : State) (x y z : Byte),
    (s.launch.osTrap = none → exec (.trap 0 y 0) s = .refused (.osTrapUnmodelled y)) ∧
    (s.launch.callLinkage = false →
      exec (.call x y z) s = .refused (.linkageUnmodelled (word (.call x y z))) ∧
      exec (.calli x y z) s = .refused (.linkageUnmodelled (word (.calli x y z))) ∧
      exec .ret s = .refused (.linkageUnmodelled (fetchedWord s)))

/-- O47. 49_system.md R452, R453: `state <- OS_TRAP(Y, state)`, or the end of the run; the form of OS_TRAP is the model's (log entries
7, 8, 10). -/
def Obligations.TrapWithOsTrapSupplied : Prop :=
  ∀ (s : State) (y : Byte) (os : OsTrap), s.launch.osTrap = some os →
    exec (.trap 0 y 0) s = (if y ∈ os.mayEnd ∧ Config.osTrapEnds y s = true
      then .fault (.runEnded y (Config.osExitStatus y s)) else .next (hostResult s (Config.osTrap y s))) ∧
    (y ∉ os.mayEnd → ∃ t, exec (.trap 0 y 0) s = .next t ∧ t = hostResult s (Config.osTrap y s) ∧
      t.launch.misalign = s.launch.misalign ∧ t.launch.osTrap = s.launch.osTrap ∧
      t.launch.callLinkage = s.launch.callLinkage ∧ (legal s → legal t)) ∧
    ∀ u : State,
      (legal u → hostResult s u =
        { u with launch := { s.launch with mapped := u.launch.mapped }, draws := s.draws + 1 }) ∧
      (¬ legal u → hostResult s u = { s with pc := s.pc + 4, draws := s.draws + 1 })

/-- O48. 48_control_transfer.md R432, R435, R436, R443: `state <- CALL_LINKAGE.call(state, X, A), which sets pc <- A` and
`state <- CALL_LINKAGE.ret(state)`; the form of CALL_LINKAGE is the model's (log entries 9, 10). -/
def Obligations.CallsWithLinkageSupplied : Prop :=
  ∀ (s : State) (x y z : Byte), s.launch.callLinkage = true →
    (∀ p ∈ ([(Instr.call x y z, reg s y + reg s z), (.calli x y z, reg s y + z.setWidth 64)] : List (Instr × Octa)),
      ∃ t, exec p.1 s = .next t ∧ t = { linkageResult s (Config.callLinkage x p.2 s) with pc := p.2 } ∧ t.pc = p.2 ∧
        t.launch = s.launch ∧ (legal s → legal t)) ∧
    (∃ t, exec .ret s = .next t ∧ t = linkageResult s (Config.retLinkage s) ∧ t.launch = s.launch ∧
      (legal s → legal t)) ∧
    ∀ u : State,
      (legal u → linkageResult s u = { u with launch := s.launch, draws := s.draws + 1 }) ∧
      (¬ legal u → linkageResult s u = { s with pc := s.pc + 4, draws := s.draws + 1 })

/-- O49. 30_encoding.md R114. -/
def Obligations.StatusNFaults : Prop :=
  (∀ s : State, ∀ i ∈ (
      [Instr.funord, .fcmpe, .fune, .feqle, .cswap, .cswapi, .ldunc, .ldunci, .ldvts, .ldvtsi, .preld, .preldi,
       .prego, .pregoi, .stunc, .stunci, .syncd, .syncdi, .prest, .presti, .syncid, .syncidi, .pushj, .pushjb,
       .puti, .resume, .save, .unsave, .sync, .trip] : List Instr),
    exec i s = .fault (.unimplementedInstruction (BitVec.ofNat 32 (Memory.readNat s.memory s.pc.toNat 4)))) ∧
  ∀ s : State, s.pc.toNat % 4 = 0 → Permitted s .fetch s.pc 4 → Memory.byteAt s.memory s.pc.toNat ∈ statusN →
    step s = .fault (.unimplementedInstruction (BitVec.ofNat 32 (Memory.readNat s.memory s.pc.toNat 4)))

/-- O50. 40_floating_point.md R135, R137, R139. -/
def Obligations.FloatingComparisons : Prop :=
  ∀ (s : State) (x y z : Byte) (a b : Fp), a = unpackDouble (reg s y) → b = unpackDouble (reg s z) →
    (a.isNaN = true ∨ b.isNaN = true →
      Delivers (.fcmp x y z) s x (fun v => v = 0) [.I] ∧
      Delivers (.feql x y z) s x (fun v => v = 0)
        (if a.isSignalling = true ∨ b.isSignalling = true then [.I] else [])) ∧
    (a.isNaN = false → b.isNaN = false →
      Delivers (.fcmp x y z) s x (fun v => (a.Below b → v = 0xFFFFFFFFFFFFFFFF) ∧ (b.Below a → v = 1) ∧
        (¬ a.Below b → ¬ b.Below a → v = 0)) [] ∧
      Delivers (.feql x y z) s x (fun v => (a.Below b ∨ b.Below a → v = 0) ∧
        (¬ a.Below b → ¬ b.Below a → v = 1)) [])

/-- O51. 40_floating_point.md R140, R142, R132. -/
def Obligations.FloatingAddition : Prop :=
  ∀ (s : State) (x y z : Byte) (a c : Fp), a = unpackDouble (reg s y) → c = unpackDouble (reg s z) → ∀ p ∈ (
      [(Instr.fadd x y z, c), (.fsub x y z, c.negate)] : List (Instr × Fp)), ∀ b, b = p.2 →
    (a.isNaN = true ∨ b.isNaN = true → Delivers p.1 s x (fun v => unpackDouble v = .nan false)
      (if a.isSignalling = true ∨ b.isSignalling = true then [.I] else [])) ∧
    (∀ n m, a = .inf n → b = .inf m → n ≠ m → Delivers p.1 s x (fun v => unpackDouble v = .nan false) [.I]) ∧
    (∀ n, (a = .inf n ∧ b.isNaN = false ∧ b ≠ .inf (!n)) ∨ (b = .inf n ∧ a.isNaN = false ∧ a ≠ .inf (!n)) →
      Delivers p.1 s x (fun v => unpackDouble v = .inf n) []) ∧
    ∀ n m e k l f, a = .fin n m e → b = .fin k l f →
      (a.value + b.value = 0 → Delivers p.1 s x (fun v =>
        v = if (if m = 0 ∧ l = 0 ∧ n = k then n else decide (roundingMode s = .down)) then 0x8000000000000000 else 0) []) ∧
      (a.value + b.value ≠ 0 → ∃ w : Exact, (w.neg = true ↔ a.value + b.value < 0) ∧
        w.standsFor |a.value + b.value| ∧ Delivers p.1 s x
          (fun v => v = BitVec.ofNat 64 (fpRound doubleFormat (roundingMode s) (enabled s .U) w).1)
          (fpRound doubleFormat (roundingMode s) (enabled s .U) w).2)

/-- O52. 40_floating_point.md R152, R132. -/
def Obligations.FloatingMultiplication : Prop :=
  ∀ (s : State) (x y z : Byte) (a b : Fp), a = unpackDouble (reg s y) → b = unpackDouble (reg s z) →
    (a.isNaN = true ∨ b.isNaN = true → Delivers (.fmul x y z) s x (fun v => unpackDouble v = .nan false)
      (if a.isSignalling = true ∨ b.isSignalling = true then [.I] else [])) ∧
    (∀ n k m e, (a = .inf n ∧ b = .fin k m e) ∨ (a = .fin k m e ∧ b = .inf n) →
      (m = 0 → Delivers (.fmul x y z) s x (fun v => unpackDouble v = .nan false) [.I]) ∧
      (m ≠ 0 → Delivers (.fmul x y z) s x (fun v => unpackDouble v = .inf (xor n k)) [])) ∧
    (∀ n k, a = .inf n → b = .inf k → Delivers (.fmul x y z) s x (fun v => unpackDouble v = .inf (xor n k)) []) ∧
    ∀ n m e k l f, a = .fin n m e → b = .fin k l f →
      (m = 0 ∨ l = 0 → Delivers (.fmul x y z) s x (fun v => v = if xor n k then 0x8000000000000000 else 0) []) ∧
      (m ≠ 0 → l ≠ 0 → ∃ w : Exact, w.neg = xor n k ∧ w.standsFor |a.value * b.value| ∧
        Delivers (.fmul x y z) s x
          (fun v => v = BitVec.ofNat 64 (fpRound doubleFormat (roundingMode s) (enabled s .U) w).1)
          (fpRound doubleFormat (roundingMode s) (enabled s .U) w).2)

/-- O53. 40_floating_point.md R156, R132. -/
def Obligations.FloatingDivision : Prop :=
  ∀ (s : State) (x y z : Byte) (a b : Fp), a = unpackDouble (reg s y) → b = unpackDouble (reg s z) →
    (a.isNaN = true ∨ b.isNaN = true → Delivers (.fdiv x y z) s x (fun v => unpackDouble v = .nan false)
      (if a.isSignalling = true ∨ b.isSignalling = true then [.I] else [])) ∧
    (∀ n k, a = .inf n → b = .inf k → Delivers (.fdiv x y z) s x (fun v => unpackDouble v = .nan false) [.I]) ∧
    (∀ n k m e, a = .inf n → b = .fin k m e →
      Delivers (.fdiv x y z) s x (fun v => unpackDouble v = .inf (xor n k)) []) ∧
    (∀ n k m e, a = .fin k m e → b = .inf n →
      Delivers (.fdiv x y z) s x (fun v => v = if xor n k then 0x8000000000000000 else 0) []) ∧
    ∀ n m e k l f, a = .fin n m e → b = .fin k l f →
      (l = 0 → m = 0 → Delivers (.fdiv x y z) s x (fun v => unpackDouble v = .nan false) [.I]) ∧
      (l = 0 → m ≠ 0 → Delivers (.fdiv x y z) s x (fun v => unpackDouble v = .inf (xor n k)) [.Z]) ∧
      (l ≠ 0 → m = 0 → Delivers (.fdiv x y z) s x (fun v => v = if xor n k then 0x8000000000000000 else 0) []) ∧
      (l ≠ 0 → m ≠ 0 → ∃ w : Exact, w.neg = xor n k ∧ w.standsFor |a.value / b.value| ∧
        Delivers (.fdiv x y z) s x
          (fun v => v = BitVec.ofNat 64 (fpRound doubleFormat (roundingMode s) (enabled s .U) w).1)
          (fpRound doubleFormat (roundingMode s) (enabled s .U) w).2)

/-- O54. 40_floating_point.md R157, R132; the enable bit U plays no part, since a root is never tiny. -/
def Obligations.FloatingSquareRoot : Prop :=
  ∀ (s : State) (x z : Byte) (a : Fp), a = unpackDouble (reg s z) →
    (∀ g, a = .nan g → Delivers (.fsqrt x 0 z) s x (fun v => unpackDouble v = .nan false) (if g then [.I] else [])) ∧
    (a = .inf true ∨ (∃ m e, a = .fin true m e ∧ m ≠ 0) → Delivers (.fsqrt x 0 z) s x (fun v => unpackDouble v = .nan false) [.I]) ∧
    (a = .inf false ∨ (∃ n e, a = .fin n 0 e) → Delivers (.fsqrt x 0 z) s x (fun v => v = reg s z) []) ∧
    ∀ m e, a = .fin false m e → m ≠ 0 → ∃ w : Exact, w.neg = false ∧ w.mant ≠ 0 ∧
      (w.magnitude * w.magnitude = a.value ∨ (w.mant % 2 = 1 ∧ 2 ^ 59 ≤ w.mant ∧
        (((w.mant : Rat) - 1) * 2 ^ w.exp) ^ 2 < a.value ∧ a.value < (((w.mant : Rat) + 1) * 2 ^ w.exp) ^ 2)) ∧
      Delivers (.fsqrt x 0 z) s x (fun v => v = BitVec.ofNat 64 (fpRound doubleFormat (roundingMode s) false w).1)
        (fpRound doubleFormat (roundingMode s) false w).2

/-- O55. 40_floating_point.md R158. -/
def Obligations.FloatingRemainder : Prop :=
  ∀ (s : State) (x y z : Byte) (a b : Fp), a = unpackDouble (reg s y) → b = unpackDouble (reg s z) →
    (a.isNaN = true ∨ b.isNaN = true → Delivers (.frem x y z) s x (fun v => unpackDouble v = .nan false)
      (if a.isSignalling = true ∨ b.isSignalling = true then [.I] else [])) ∧
    ((∃ n, a = .inf n) ∧ b.isNaN = false ∨ (∃ n e, b = .fin n 0 e) ∧ a.isNaN = false →
      Delivers (.frem x y z) s x (fun v => unpackDouble v = .nan false) [.I]) ∧
    (∀ n m e k, a = .fin n m e → b = .inf k → Delivers (.frem x y z) s x (fun v => v = reg s y) []) ∧
    ∀ n m e k l f, a = .fin n m e → b = .fin k l f → l ≠ 0 →
      (m = 0 → Delivers (.frem x y z) s x (fun v => v = reg s y) []) ∧
      (m ≠ 0 → ∃ q : Int, |a.value / b.value - q| ≤ 1 / 2 ∧ (|a.value / b.value - q| = 1 / 2 → q % 2 = 0) ∧
        Delivers (.frem x y z) s x (fun v => ∃ g r h, unpackDouble v = .fin g r h ∧
          rationalOf g r h = a.value - q * b.value ∧ (r = 0 → g = n)) [])

/-- O56. 40_floating_point.md R159, R131. -/
def Obligations.FloatingInteger : Prop :=
  ∀ (s : State) (x z : Byte) (a : Fp), a = unpackDouble (reg s z) →
    (∀ g, a = .nan g → Delivers (.fint x 0 z) s x (fun v => unpackDouble v = .nan false) (if g then [.I] else [])) ∧
    ((∃ n, a = .inf n) ∨ (∃ n e, a = .fin n 0 e) → Delivers (.fint x 0 z) s x (fun v => v = reg s z) []) ∧
    ∀ g m e, a = .fin g m e → m ≠ 0 → ∃ n : Nat, RoundsTo (roundingMode s) g |a.value| n ∧
      Delivers (.fint x 0 z) s x (fun v => ∃ r h, unpackDouble v = .fin g r h ∧ (r : Rat) * 2 ^ h = n)
        (if (n : Rat) = |a.value| then [] else [.X])

/-- O57. 40_floating_point.md R141, R143, R131; the value out of range is free (log entry 11). -/
def Obligations.FloatToFix : Prop :=
  ∀ (s : State) (x z : Byte) (a : Fp), a = unpackDouble (reg s z) →
    (a.isNaN = true ∨ (∃ n, a = .inf n) → Delivers (.fix x 0 z) s x (fun _ => True) [.I] ∧
      Delivers (.fixu x 0 z) s x (fun _ => True) [.I]) ∧
    ∀ g m e, a = .fin g m e → ∃ n : Nat, RoundsTo (roundingMode s) g |a.value| n ∧
      ∀ k : Int, k = (if g then -(n : Int) else n) →
        (-(2 ^ 63) ≤ k ∧ k ≤ 2 ^ 63 - 1 → Delivers (.fix x 0 z) s x (fun v => v = BitVec.ofInt 64 k)
          (if (n : Rat) = |a.value| then [] else [.X])) ∧
        (¬ (-(2 ^ 63) ≤ k ∧ k ≤ 2 ^ 63 - 1) → Delivers (.fix x 0 z) s x (fun _ => True) [.W]) ∧
        (-(2 ^ 63) ≤ k ∧ k ≤ 2 ^ 64 - 1 → Delivers (.fixu x 0 z) s x (fun v => v = BitVec.ofInt 64 k)
          (if (n : Rat) = |a.value| then [] else [.X])) ∧
        (¬ (-(2 ^ 63) ≤ k ∧ k ≤ 2 ^ 64 - 1) → Delivers (.fixu x 0 z) s x (fun _ => True) [])

/-- O58. 40_floating_point.md R144 to R151, R133. -/
def Obligations.FixToFloat : Prop :=
  ∀ (s : State) (x z : Byte), ∀ p ∈ (
      [(Instr.flot x 0 z, .sflot x 0 z, (reg s z).toInt), (.floti x 0 z, .sfloti x 0 z, (z.toNat : Int)),
       (.flotu x 0 z, .sflotu x 0 z, ((reg s z).toNat : Int)), (.flotui x 0 z, .sflotui x 0 z, (z.toNat : Int))] :
        List (Instr × Instr × Int)),
    (p.2.2 = 0 → Delivers p.1 s x (fun v => v = 0) [] ∧ Delivers p.2.1 s x (fun v => v = 0) []) ∧
    (p.2.2 ≠ 0 →
      (∃ w : Exact, (w.neg = true ↔ p.2.2 < 0) ∧ w.standsFor |(p.2.2 : Rat)| ∧
        Delivers p.1 s x (fun v => v = BitVec.ofNat 64 (fpRound doubleFormat (roundingMode s) false w).1)
          (fpRound doubleFormat (roundingMode s) false w).2) ∧
      ∃ (t : Int) (n : Nat), (2 : Rat) ^ (t + 23) ≤ |(p.2.2 : Rat)| ∧ |(p.2.2 : Rat)| < (2 : Rat) ^ (t + 24) ∧
        RoundsTo (roundingMode s) (decide (p.2.2 < 0)) (|(p.2.2 : Rat)| / 2 ^ t) n ∧
        Delivers p.2.1 s x (fun v => ∃ r h, unpackDouble v = .fin (decide (p.2.2 < 0)) r h ∧
          (r : Rat) * 2 ^ h = n * 2 ^ t) (if (n : Rat) * 2 ^ t = |(p.2.2 : Rat)| then [] else [.X]))

/-- O59. 40_floating_point.md R131, R132, R133: the rule of fp_round in full, for binary64 and binary32. -/
def Obligations.RoundingFollowsItsRule : Prop :=
  ∀ f ∈ [doubleFormat, shortFormat], ∀ (rm : Rounding) (u : Bool) (v : Exact) (q : Rat), v.standsFor q →
    ∃ (t : Int) (n : Nat), (2 : Rat) ^ (t + f.fracBits) ≤ q ∧ q < (2 : Rat) ^ (t + f.fracBits + 1) ∧
      RoundsTo rm v.neg (q / 2 ^ t) n ∧
      (((2 : Rat) ^ (f.fracBits + 1) - 1) * 2 ^ (f.minExp + f.maxField - 2) < n * 2 ^ t →
        fpRound f rm u v = (packBits f v.neg (if rm = .near ∨ (rm = .up ∧ v.neg = false) ∨ (rm = .down ∧ v.neg = true)
          then infinityBits f else infinityBits f - 1), [.O, .X])) ∧
      ((2 : Rat) ^ (f.minExp + f.fracBits) ≤ n * 2 ^ t →
        (n : Rat) * 2 ^ t ≤ ((2 : Rat) ^ (f.fracBits + 1) - 1) * 2 ^ (f.minExp + f.maxField - 2) →
          (∃ r h, unpack f (fpRound f rm u v).1 = .fin v.neg r h ∧ (r : Rat) * 2 ^ h = n * 2 ^ t) ∧
          (fpRound f rm u v).2 = if (n : Rat) * 2 ^ t = q then [] else [.X]) ∧
      ((n : Rat) * 2 ^ t < (2 : Rat) ^ (f.minExp + f.fracBits) →
        ∃ k : Nat, RoundsTo rm v.neg (q / 2 ^ f.minExp) k ∧
          (∃ r h, unpack f (fpRound f rm u v).1 = .fin v.neg r h ∧ (r : Rat) * 2 ^ h = k * 2 ^ f.minExp) ∧
          (fpRound f rm u v).2 =
            if (k : Rat) * 2 ^ f.minExp = q then (if u then [.U] else []) else [.U, .X])
end

