-- ==== Sys2Proof/Laws/Encoding.lean ====
section
/-! SUPPORT. Small lemmas about the opcode map and the bytes of an instruction. -/

namespace Sys2Proof

theorem wyde_of_bytes (yz : Wyde) : yz.extractLsb' 8 8 ++ yz.extractLsb' 0 8 = yz := by
  apply BitVec.eq_of_getLsbD_eq
  intro k hk
  simp only [BitVec.getLsbD_append, BitVec.getLsbD_extractLsb']
  grind

theorem long_of_bytes (xyz : BitVec 24) :
    xyz.extractLsb' 16 8 ++ xyz.extractLsb' 8 8 ++ xyz.extractLsb' 0 8 = xyz := by
  apply BitVec.eq_of_getLsbD_eq
  intro k hk
  simp only [BitVec.getLsbD_append, BitVec.getLsbD_extractLsb']
  grind

/-- Decoding an encoded instruction comes down to its row of the opcode map. -/
theorem decode_encode_of_row {i : Instr} {row : Row} (rest : List Byte)
    (h : opcodeMap[i.opcode.toNat]? = some row)
    (hi : row i.operands.1 i.operands.2.1 i.operands.2.2 = i) : decode (encode i ++ rest) = .ok (i, rest) := by
  simp only [encode, List.cons_append, List.nil_append, decode, h, hi]

end Sys2Proof
end

