-- ==== Sys2Proof/Laws/State.lean ====
section
/-! SUPPORT. One lemma per field and update of State (true by unfolding), so that no proof unfolds a record update. -/

namespace Sys2Proof.Machine

@[simp] theorem setPc_pc (s : State) (t : Octa) : (setPc s t).pc = t := rfl
@[simp] theorem setPc_locals (s : State) (t : Octa) : (setPc s t).locals = s.locals := rfl
@[simp] theorem setPc_globals (s : State) (t : Octa) : (setPc s t).globals = s.globals := rfl
@[simp] theorem setPc_specials (s : State) (t : Octa) : (setPc s t).specials = s.specials := rfl
@[simp] theorem setPc_memory (s : State) (t : Octa) : (setPc s t).memory = s.memory := rfl
@[simp] theorem setPc_launch (s : State) (t : Octa) : (setPc s t).launch = s.launch := rfl
@[simp] theorem setPc_linkage (s : State) (t : Octa) : (setPc s t).linkage = s.linkage := rfl
@[simp] theorem setPc_draws (s : State) (t : Octa) : (setPc s t).draws = s.draws := rfl

@[simp] theorem advance_pc (s : State) : (advance s).pc = s.pc + 4 := rfl
@[simp] theorem advance_locals (s : State) : (advance s).locals = s.locals := rfl
@[simp] theorem advance_globals (s : State) : (advance s).globals = s.globals := rfl
@[simp] theorem advance_specials (s : State) : (advance s).specials = s.specials := rfl
@[simp] theorem advance_memory (s : State) : (advance s).memory = s.memory := rfl
@[simp] theorem advance_launch (s : State) : (advance s).launch = s.launch := rfl
@[simp] theorem advance_linkage (s : State) : (advance s).linkage = s.linkage := rfl
@[simp] theorem advance_draws (s : State) : (advance s).draws = s.draws := rfl

@[simp] theorem drawn_pc (s : State) : (drawn s).pc = s.pc := rfl
@[simp] theorem drawn_locals (s : State) : (drawn s).locals = s.locals := rfl
@[simp] theorem drawn_globals (s : State) : (drawn s).globals = s.globals := rfl
@[simp] theorem drawn_specials (s : State) : (drawn s).specials = s.specials := rfl
@[simp] theorem drawn_memory (s : State) : (drawn s).memory = s.memory := rfl
@[simp] theorem drawn_launch (s : State) : (drawn s).launch = s.launch := rfl
@[simp] theorem drawn_linkage (s : State) : (drawn s).linkage = s.linkage := rfl
@[simp] theorem drawn_draws (s : State) : (drawn s).draws = s.draws + 1 := rfl

@[simp] theorem setSpecial_pc (s : State) (n : Fin 32) (v : Octa) : (setSpecial s n v).pc = s.pc := rfl
@[simp] theorem setSpecial_locals (s : State) (n : Fin 32) (v : Octa) : (setSpecial s n v).locals = s.locals := rfl
@[simp] theorem setSpecial_globals (s : State) (n : Fin 32) (v : Octa) :
    (setSpecial s n v).globals = s.globals := rfl
@[simp] theorem setSpecial_memory (s : State) (n : Fin 32) (v : Octa) : (setSpecial s n v).memory = s.memory := rfl
@[simp] theorem setSpecial_launch (s : State) (n : Fin 32) (v : Octa) : (setSpecial s n v).launch = s.launch := rfl
@[simp] theorem setSpecial_linkage (s : State) (n : Fin 32) (v : Octa) :
    (setSpecial s n v).linkage = s.linkage := rfl
@[simp] theorem setSpecial_draws (s : State) (n : Fin 32) (v : Octa) : (setSpecial s n v).draws = s.draws := rfl

@[simp] theorem writeRef_pc (s : State) (r : RegRef) (v : Octa) : (writeRef s r v).pc = s.pc := by cases r <;> rfl
@[simp] theorem writeRef_specials (s : State) (r : RegRef) (v : Octa) :
    (writeRef s r v).specials = s.specials := by cases r <;> rfl
@[simp] theorem writeRef_memory (s : State) (r : RegRef) (v : Octa) :
    (writeRef s r v).memory = s.memory := by cases r <;> rfl
@[simp] theorem writeRef_launch (s : State) (r : RegRef) (v : Octa) :
    (writeRef s r v).launch = s.launch := by cases r <;> rfl
@[simp] theorem writeRef_linkage (s : State) (r : RegRef) (v : Octa) :
    (writeRef s r v).linkage = s.linkage := by cases r <;> rfl
@[simp] theorem writeRef_draws (s : State) (r : RegRef) (v : Octa) :
    (writeRef s r v).draws = s.draws := by cases r <;> rfl

@[simp] theorem setReg_pc (s : State) (k : Byte) (v : Octa) : (setReg s k v).pc = s.pc := writeRef_pc ..
@[simp] theorem setReg_specials (s : State) (k : Byte) (v : Octa) : (setReg s k v).specials = s.specials :=
  writeRef_specials ..
@[simp] theorem setReg_memory (s : State) (k : Byte) (v : Octa) : (setReg s k v).memory = s.memory :=
  writeRef_memory ..
@[simp] theorem setReg_launch (s : State) (k : Byte) (v : Octa) : (setReg s k v).launch = s.launch :=
  writeRef_launch ..
@[simp] theorem setReg_linkage (s : State) (k : Byte) (v : Octa) : (setReg s k v).linkage = s.linkage :=
  writeRef_linkage ..
@[simp] theorem setReg_draws (s : State) (k : Byte) (v : Octa) : (setReg s k v).draws = s.draws :=
  writeRef_draws ..

end Sys2Proof.Machine
end

