-- ==== Sys2Proof/Laws/Registers.lean ====
section
/-! SUPPORT. Reading registers after writing them; operand resolution depends on rG alone. -/

namespace Sys2Proof.Machine

theorem special_congr {s t : State} (h : t.specials = s.specials) (n : Fin 32) : special t n = special s n := by
  simp only [special, h]

@[simp] theorem special_setPc (s : State) (p : Octa) (n : Fin 32) : special (setPc s p) n = special s n := rfl
@[simp] theorem special_advance (s : State) (n : Fin 32) : special (advance s) n = special s n := rfl
@[simp] theorem special_drawn (s : State) (n : Fin 32) : special (drawn s) n = special s n := rfl
@[simp] theorem special_setReg (s : State) (k : Byte) (v : Octa) (n : Fin 32) :
    special (setReg s k v) n = special s n := special_congr (setReg_specials ..) n

@[simp] theorem special_setSpecial_same (s : State) (n : Fin 32) (v : Octa) : special (setSpecial s n v) n = v := by
  simp [special, setSpecial]

@[simp] theorem special_setSpecial_ne (s : State) {m n : Fin 32} (v : Octa) (h : m ≠ n) :
    special (setSpecial s n v) m = special s m := by
  have h' : n.val ≠ m.val := fun e => h (Fin.ext e.symm)
  simp [special, setSpecial, h']

theorem cellOf_congr {s t : State} (h : special t rG = special s rG) (k : Byte) : cellOf t k = cellOf s k := by
  simp only [cellOf, h]

theorem readRef_congr {s t : State} (hl : t.locals = s.locals) (hg : t.globals = s.globals) (r : RegRef) :
    readRef t r = readRef s r := by
  cases r <;> simp only [readRef, hl, hg]

theorem readRef_writeRef_same (s : State) (r : RegRef) (v : Octa) : readRef (writeRef s r v) r = v := by
  cases r <;> simp [readRef, writeRef]

theorem readRef_writeRef_ne (s : State) {r q : RegRef} (v : Octa) (h : q ≠ r) :
    readRef (writeRef s r v) q = readRef s q := by
  cases r with
  | loc k =>
    cases q with
    | loc j =>
      have : k.toNat ≠ j.toNat := fun e => h (by rw [BitVec.eq_of_toNat_eq e])
      simp [readRef, writeRef, this]
    | glob j => rfl
  | glob k =>
    cases q with
    | loc j => rfl
    | glob j =>
      have : k.val ≠ j.val := fun e => h (by rw [Fin.ext e])
      simp [readRef, writeRef, this]

@[simp] theorem readRef_setPc (s : State) (p : Octa) (r : RegRef) : readRef (setPc s p) r = readRef s r :=
  readRef_congr rfl rfl r
@[simp] theorem readRef_advance (s : State) (r : RegRef) : readRef (advance s) r = readRef s r :=
  readRef_congr rfl rfl r
@[simp] theorem readRef_drawn (s : State) (r : RegRef) : readRef (drawn s) r = readRef s r :=
  readRef_congr rfl rfl r
@[simp] theorem readRef_setSpecial (s : State) (n : Fin 32) (v : Octa) (r : RegRef) :
    readRef (setSpecial s n v) r = readRef s r := readRef_congr rfl rfl r

@[simp] theorem cellOf_advance (s : State) (k : Byte) : cellOf (advance s) k = cellOf s k := rfl
@[simp] theorem cellOf_setPc (s : State) (p : Octa) (k : Byte) : cellOf (setPc s p) k = cellOf s k := rfl
@[simp] theorem cellOf_drawn (s : State) (k : Byte) : cellOf (drawn s) k = cellOf s k := rfl
@[simp] theorem cellOf_setReg (s : State) (j : Byte) (v : Octa) (k : Byte) : cellOf (setReg s j v) k = cellOf s k :=
  cellOf_congr (special_setReg ..) k
theorem cellOf_setSpecial (s : State) {n : Fin 32} (v : Octa) (h : n ≠ rG) (k : Byte) :
    cellOf (setSpecial s n v) k = cellOf s k :=
  cellOf_congr (special_setSpecial_ne s v h.symm) k

@[simp] theorem reg_advance (s : State) (k : Byte) : reg (advance s) k = reg s k := rfl
@[simp] theorem reg_setPc (s : State) (p : Octa) (k : Byte) : reg (setPc s p) k = reg s k := rfl
@[simp] theorem reg_drawn (s : State) (k : Byte) : reg (drawn s) k = reg s k := rfl

@[simp] theorem reg_setReg_same (s : State) (k : Byte) (v : Octa) : reg (setReg s k v) k = v := by
  rw [reg, cellOf_setReg, setReg, readRef_writeRef_same]

theorem readRef_setReg_ne (s : State) {k : Byte} {r : RegRef} (v : Octa) (h : r ≠ cellOf s k) :
    readRef (setReg s k v) r = readRef s r :=
  readRef_writeRef_ne s v h

end Sys2Proof.Machine
end

