-- ==== Sys2Proof/Laws/Events.lean ====
section
/-! SUPPORT. Everything that the events of one instruction can do (spec/60_exceptions.md R472). -/

namespace Sys2Proof.Machine

theorem Event.bit_lt (e : Event) : e.bit < 8 := by
  cases e <;> decide

theorem getLsbD_noteEvent (s : State) (e : Event) (i : Nat) :
    (special (noteEvent s e) rA).getLsbD i = (special s rA).getLsbD i ∨
      ((special (noteEvent s e) rA).getLsbD i = true ∧ i = e.bit) := by
  have hb := e.bit_lt
  simp only [noteEvent, special_setSpecial_same]
  split
  · by_cases hi : i = e.bit
    · right
      subst hi
      simp [BitVec.getLsbD_twoPow]
      omega
    · left
      simp [BitVec.getLsbD_twoPow, Ne.symm hi]
  · exact .inl rfl

theorem enabled_noteEvent (s : State) (e d : Event) : enabled (noteEvent s e) d = enabled s d := by
  rcases getLsbD_noteEvent s e (d.bit + 8) with h | ⟨-, h⟩
  · exact h
  · have := e.bit_lt; omega

/-- What a state differs by after events: rA as EventsNoted says, the count of drawn values, nothing else. -/
structure AfterEvents (s t : State) (es : List Event) : Prop where
  locals : t.locals = s.locals
  globals : t.globals = s.globals
  pc : t.pc = s.pc
  memory : t.memory = s.memory
  launch : t.launch = s.launch
  linkage : t.linkage = s.linkage
  specials : SpecialsSame s t [rA]
  noted : EventsNoted s t es

theorem afterEvents_nil (s : State) : AfterEvents s s [] where
  locals := rfl
  globals := rfl
  pc := rfl
  memory := rfl
  launch := rfl
  linkage := rfl
  specials := fun _ _ => rfl
  noted := fun _ => .inl rfl

theorem AfterEvents.cons {s t : State} {e : Event} {es : List Event} (h : AfterEvents (noteEvent s e) t es) :
    AfterEvents s t (e :: es) where
  locals := h.locals
  globals := h.globals
  pc := h.pc
  memory := h.memory
  launch := h.launch
  linkage := h.linkage
  specials := fun n hn => by
    rw [h.specials n hn, noteEvent, special_setSpecial_ne _ _ (by simpa using hn), special_drawn]
  noted := fun i => by
    rcases h.noted i with h1 | ⟨h1, d, hd, rfl⟩
    · rcases getLsbD_noteEvent s e i with h2 | ⟨h2, rfl⟩
      · exact .inl (h1.trans h2)
      · exact .inr ⟨h1.trans h2, e, List.mem_cons_self .., rfl⟩
    · exact .inr ⟨h1, d, List.mem_cons_of_mem _ hd, rfl⟩

/-- Events of which none is enabled end in a next state that differs by them alone. -/
theorem raiseEvents_ok {s : State} {es : List Event} (h : NoneEnabled s es) :
    ∃ t, raiseEvents s es = .ok t ∧ AfterEvents s t es := by
  induction es generalizing s with
  | nil => exact ⟨s, rfl, afterEvents_nil s⟩
  | cons e es ih =>
    have he : enabled s e = false := h e (List.mem_cons_self ..)
    obtain ⟨t, ht, hA⟩ := ih (s := noteEvent s e) fun d hd => by
      rw [enabled_noteEvent]; exact h d (List.mem_cons_of_mem _ hd)
    exact ⟨t, by simp [raiseEvents, event, he, ht], hA.cons⟩

/-- The first enabled event decides the fault. -/
theorem raiseEvents_error {s : State} {es ds : List Event} {e : Event} (h : NoneEnabled s es)
    (he : enabled s e = true) : raiseEvents s (es ++ e :: ds) = .error (.tripUnsupported e) := by
  induction es generalizing s with
  | nil => simp [raiseEvents, event, he]
  | cons d es ih =>
    have hd : enabled s d = false := h d (List.mem_cons_self ..)
    have := ih (s := noteEvent s d)
      (fun c hc => by rw [enabled_noteEvent]; exact h c (List.mem_cons_of_mem _ hc))
      (by rw [enabled_noteEvent]; exact he)
    simp [raiseEvents, event, hd, this]

/-- If the events of an instruction end in a next state, none of them was enabled. -/
theorem raiseEvents_inv {s t : State} {es : List Event} (h : raiseEvents s es = .ok t) :
    NoneEnabled s es ∧ AfterEvents s t es := by
  induction es generalizing s with
  | nil => cases h; exact ⟨fun _ hd => by simp at hd, afterEvents_nil _⟩
  | cons e es ih =>
    cases he : enabled s e with
    | true => simp [raiseEvents, event, he] at h
    | false =>
      simp only [raiseEvents, event, he] at h
      obtain ⟨h1, h2⟩ := ih h
      refine ⟨fun d hd => ?_, h2.cons⟩
      rcases List.mem_cons.mp hd with rfl | hd
      · exact he
      · rw [← enabled_noteEvent s e d]; exact h1 d hd

end Sys2Proof.Machine
end

