-- ==== Sys2Proof/Laws/Memory.lean ====
section
/-! SUPPORT. Reading memory after writing it; every write keeps the canonical form; State.reset's memory has it. -/

namespace Sys2Proof.Machine

theorem Memory.wf_nil : Memory.wf [] := by
  simp [Memory.wf]

theorem Memory.wf_tail {c : Host.Cell} {m : Memory} (h : Memory.wf (c :: m)) : Memory.wf m :=
  ⟨(List.pairwise_cons.mp h.1).2, fun d hd => h.2 d (List.mem_cons_of_mem _ hd)⟩

/-- The cells of a memory after a write are old cells or the written one. -/
theorem Memory.mem_setByte {m : Memory} {a : Nat} {v : Byte} {c : Host.Cell} (h : c ∈ Memory.setByte m a v) :
    c ∈ m ∨ (c = (a, v) ∧ v ≠ unlistedByte) := by
  induction m with
  | nil =>
    simp only [Memory.setByte] at h
    split at h
    · simp at h
    · right; exact ⟨by simpa using h, ‹_›⟩
  | cons d m ih =>
    obtain ⟨k, b⟩ := d
    simp only [Memory.setByte] at h
    split at h
    · split at h
      · exact .inl h
      · rcases List.mem_cons.mp h with h | h
        · exact .inr ⟨h, ‹_›⟩
        · exact .inl h
    · split at h
      · split at h
        · exact .inl (List.mem_cons_of_mem _ h)
        · rcases List.mem_cons.mp h with h | h
          · exact .inr ⟨h, ‹_›⟩
          · exact .inl (List.mem_cons_of_mem _ h)
      · rcases List.mem_cons.mp h with h | h
        · exact .inl (h ▸ List.mem_cons_self ..)
        · rcases ih h with h | h
          · exact .inl (List.mem_cons_of_mem _ h)
          · exact .inr h

theorem Memory.wf_setByte {m : Memory} {a : Nat} (v : Byte) (h : Memory.wf m) (ha : a < 2 ^ 64) :
    Memory.wf (Memory.setByte m a v) := by
  refine ⟨?_, fun c hc => ?_⟩
  · induction m with
    | nil => simp only [Memory.setByte]; split <;> simp
    | cons d m ih =>
      obtain ⟨k, b⟩ := d
      have hp := List.pairwise_cons.mp h.1
      simp only [Memory.setByte]
      split
      · split
        · exact h.1
        · refine List.pairwise_cons.mpr ⟨fun c hc => ?_, h.1⟩
          rcases List.mem_cons.mp hc with rfl | hc
          · assumption
          · have := hp.1 c hc; simp at this ⊢; omega
      · split
        · rename_i hk
          split
          · exact hp.2
          · exact List.pairwise_cons.mpr ⟨fun c hc => hk ▸ hp.1 c hc, hp.2⟩
        · refine List.pairwise_cons.mpr ⟨fun c hc => ?_, ih (Memory.wf_tail h)⟩
          rcases Memory.mem_setByte hc with hc | ⟨rfl, -⟩
          · exact hp.1 c hc
          · simp; omega
  · rcases Memory.mem_setByte hc with hc | ⟨rfl, hv⟩
    · exact h.2 c hc
    · exact ⟨hv, ha⟩

theorem Memory.byteAt_of_lt {m : Memory} {a : Nat} (h : ∀ c ∈ m, a < c.1) : Memory.byteAt m a = unlistedByte := by
  induction m with
  | nil => rfl
  | cons d m ih =>
    obtain ⟨k, b⟩ := d
    have := h (k, b) (List.mem_cons_self ..)
    rw [Memory.byteAt, if_neg (by simp at this; omega), ih fun c hc => h c (List.mem_cons_of_mem _ hc)]

theorem Memory.byteAt_setByte_same {m : Memory} (a : Nat) (v : Byte) (h : Memory.wf m) :
    Memory.byteAt (Memory.setByte m a v) a = v := by
  induction m with
  | nil => simp only [Memory.setByte]; split <;> simp_all [Memory.byteAt]
  | cons d m ih =>
    obtain ⟨k, b⟩ := d
    have hp := List.pairwise_cons.mp h.1
    simp only [Memory.setByte]
    split
    · rename_i hak
      split
      · rename_i hv
        rw [hv]
        apply Memory.byteAt_of_lt
        intro c hc
        rcases List.mem_cons.mp hc with rfl | hc
        · exact hak
        · exact Nat.lt_trans hak (hp.1 c hc)
      · simp [Memory.byteAt]
    · split
      · rename_i hk
        split
        · rename_i hv
          rw [hv]
          exact Memory.byteAt_of_lt fun c hc => hk ▸ hp.1 c hc
        · simp [Memory.byteAt]
      · rename_i hk
        rw [Memory.byteAt, if_neg hk, ih (Memory.wf_tail h)]

theorem Memory.byteAt_setByte_ne (m : Memory) {a b : Nat} (v : Byte) (h : b ≠ a) :
    Memory.byteAt (Memory.setByte m a v) b = Memory.byteAt m b := by
  have h' : a ≠ b := h.symm
  induction m with
  | nil => simp only [Memory.setByte]; split <;> simp [Memory.byteAt, h']
  | cons d m ih =>
    obtain ⟨k, c⟩ := d
    simp only [Memory.setByte]
    split
    · split <;> simp [Memory.byteAt, h']
    · split
      · rename_i hk
        have : k ≠ b := fun e => h (by omega)
        split <;> simp [Memory.byteAt, h', this]
      · simp only [Memory.byteAt, ih]

theorem Memory.wf_writeNat {m : Memory} {a : Nat} (n v : Nat) (h : Memory.wf m) (ha : a + n ≤ 2 ^ 64) :
    Memory.wf (Memory.writeNat m a n v) := by
  induction n generalizing v with
  | zero => exact h
  | succ n ih => exact Memory.wf_setByte _ (ih _ (by omega)) (by omega)

theorem Memory.byteAt_writeNat_outside (m : Memory) {a b : Nat} (n v : Nat) (h : b < a ∨ a + n ≤ b) :
    Memory.byteAt (Memory.writeNat m a n v) b = Memory.byteAt m b := by
  induction n generalizing v with
  | zero => rfl
  | succ n ih =>
    rw [Memory.writeNat, Memory.byteAt_setByte_ne _ _ (by omega), ih _ (by omega)]

theorem Memory.byteAt_writeNat {m : Memory} {a : Nat} (n v : Nat) (h : Memory.wf m) (ha : a + n ≤ 2 ^ 64) {i : Nat}
    (hi : i < n) : (Memory.byteAt (Memory.writeNat m a n v) (a + i)).toNat = v / 256 ^ (n - 1 - i) % 256 := by
  induction n generalizing v with
  | zero => omega
  | succ n ih =>
    rw [Memory.writeNat]
    by_cases hin : i = n
    · subst hin
      rw [Memory.byteAt_setByte_same _ _ (Memory.wf_writeNat i _ h (by omega))]
      simp
    · rw [Memory.byteAt_setByte_ne _ _ (by omega), ih _ (by omega) (by omega), Nat.div_div_eq_div_mul]
      have : n + 1 - 1 - i = (n - 1 - i) + 1 := by omega
      rw [this, Nat.pow_succ, Nat.mul_comm (256 ^ _)]

theorem Memory.readNat_lt (m : Memory) (a n : Nat) : Memory.readNat m a n < 256 ^ n := by
  induction n with
  | zero => simp [Memory.readNat]
  | succ n ih =>
    have := (Memory.byteAt m (a + n)).isLt
    rw [Memory.readNat, Nat.pow_succ]
    omega

theorem reset_memory_wf : Memory.wf State.reset.memory := Memory.wf_nil

end Sys2Proof.Machine
end

