-- ==== Sys2Proof/Laws/Ops.lean ====
section
/-! SUPPORT. What each shared way of ending an instruction does: one lemma that says when it answers a next state and
what that state is, and one that reads a next state back. -/

namespace Sys2Proof.Machine

theorem cellOf_afterEvents {s t : State} {es : List Event} (h : AfterEvents s t es) (k : Byte) :
    cellOf t k = cellOf s k :=
  cellOf_congr (h.specials rG (by decide)) k

theorem finish_eq {s : State} {es : List Event} (h : NoneEnabled s es) :
    ∃ t, finish s es = .next (advance t) ∧ AfterEvents s t es := by
  obtain ⟨t, ht, hA⟩ := raiseEvents_ok h
  exact ⟨t, by simp [finish, ht, next], hA⟩

theorem finish_fault {s : State} {es ds : List Event} {e : Event} (h : NoneEnabled s es) (he : enabled s e = true) :
    finish s (es ++ e :: ds) = .fault (.tripUnsupported e) := by
  simp [finish, raiseEvents_error h he, raise]

theorem finish_inv {s t : State} {es : List Event} (h : finish s es = .next t) :
    ∃ u, t = advance u ∧ NoneEnabled s es ∧ AfterEvents s u es := by
  unfold finish at h
  cases hr : raiseEvents s es with
  | error f => simp [hr, raise] at h
  | ok u =>
    simp only [hr, next, Host.Outcome.next.injEq] at h
    exact ⟨u, h.symm, raiseEvents_inv hr⟩

@[simp] theorem finish_nil (s : State) : finish s [] = .next (advance s) := rfl

@[simp] theorem resultWith_nil (s : State) (x : Byte) (v : Octa) : resultWith s x v [] = result s x v := rfl

theorem enabled_congr {s t : State} (h : special t rA = special s rA) (e : Event) : enabled t e = enabled s e := by
  simp only [enabled, h]

theorem noneEnabled_congr {s t : State} (h : special t rA = special s rA) {es : List Event} :
    NoneEnabled t es ↔ NoneEnabled s es := by
  simp only [NoneEnabled, enabled_congr h]

/-- `x[X] <- v` and the next instruction, from a state u that differs from s by some special registers (rH, rR) and
the count of drawn values. -/
theorem resultWith_writes {s u : State} (x : Byte) (v : Octa) {es : List Event} {ns : List (Fin 32)}
    (hl : u.locals = s.locals) (hg : u.globals = s.globals) (hp : u.pc = s.pc) (hm : u.memory = s.memory)
    (hc : u.launch = s.launch) (hk : u.linkage = s.linkage) (hns : rA ∉ ns ∧ rG ∉ ns)
    (hs : SpecialsSame s u ns) (h : NoneEnabled s es) :
    ∃ t, resultWith u x v es = .next t ∧ WritesReg s t x v es ns ∧ ∀ n ∈ ns, special t n = special u n := by
  have hA : special u rA = special s rA := hs rA hns.1
  have hG : special u rG = special s rG := hs rG hns.2
  obtain ⟨t, ht, hE⟩ := finish_eq (s := setReg u x v) (es := es)
    ((noneEnabled_congr ((special_setReg ..).trans hA)).mpr h)
  have hcell : ∀ k, cellOf t k = cellOf s k := fun k => by
    rw [cellOf_afterEvents hE, cellOf_setReg, cellOf_congr hG]
  have href : ∀ r, readRef t r = readRef (setReg u x v) r := readRef_congr hE.locals hE.globals
  refine ⟨advance t, ht, ⟨?_, fun r hr => ?_, fun n hn => ?_, fun i => ?_, fun a => ?_, ⟨?_, ?_⟩, ?_⟩, fun n hn => ?_⟩
  · rw [reg_advance, reg, hcell, href, ← cellOf_congr hG x, ← cellOf_setReg u x v x]
    exact reg_setReg_same u x v
  · rw [readRef_advance, href, readRef_setReg_ne _ _ (by rwa [cellOf_congr hG]), readRef_congr hl hg]
  · simp only [List.mem_cons, not_or] at hn
    rw [special_advance, hE.specials n (by simpa using hn.1), special_setReg, hs n hn.2]
  · rw [special_advance]
    simpa [hA] using hE.noted i
  · rw [advance_memory, hE.memory, setReg_memory, hm]
  · rw [advance_launch, hE.launch, setReg_launch, hc]
  · rw [advance_linkage, hE.linkage, setReg_linkage, hk]
  · rw [advance_pc, hE.pc, setReg_pc, hp]
  · rw [special_advance, hE.specials n (by
      simp only [List.mem_singleton]; exact fun e => hns.1 (e ▸ hn)), special_setReg]

theorem resultWith_eq {s : State} (x : Byte) (v : Octa) {es : List Event} (h : NoneEnabled s es) :
    ∃ t, resultWith s x v es = .next t ∧ WritesReg s t x v es [] := by
  obtain ⟨t, h1, h2, -⟩ := resultWith_writes (s := s) (u := s) (ns := []) x v rfl rfl rfl rfl rfl rfl
    (by simp) (fun _ _ => rfl) h
  exact ⟨t, h1, h2⟩

theorem result_eq (s : State) (x : Byte) (v : Octa) :
    ∃ t, result s x v = .next t ∧ WritesReg s t x v [] [] := by
  have h : NoneEnabled s [] := fun _ he => by simp at he
  obtain ⟨t, h1, h2⟩ := resultWith_eq x v h
  exact ⟨t, h1, h2⟩

theorem resultAny_eq {s : State} (x : Byte) (shape : Octa → Octa) {es : List Event} (h : NoneEnabled s es) :
    ∃ t, resultAny s x shape es = .next t ∧ WritesReg s t x (shape (anyValue s)) es [] := by
  obtain ⟨t, h1, h2, -⟩ := resultWith_writes (s := s) (u := drawn s) (ns := []) x (shape (anyValue s)) rfl rfl rfl rfl
    rfl rfl (by simp) (fun n _ => special_drawn s n) h
  exact ⟨t, h1, h2⟩

/-- `Delivers` for the instructions that end in `resultWith`. -/
theorem delivers_of_resultWith {i : Instr} {s u : State} {x : Byte} {v : Octa} {P : Octa → Prop} {es : List Event}
    {ns : List (Fin 32)} {Q : State → Prop} (hi : exec i s = resultWith u x v es) (hP : P v)
    (hl : u.locals = s.locals) (hg : u.globals = s.globals) (hp : u.pc = s.pc) (hm : u.memory = s.memory)
    (hc : u.launch = s.launch) (hk : u.linkage = s.linkage) (hns : rA ∉ ns ∧ rG ∉ ns) (hs : SpecialsSame s u ns)
    (hQ : ∀ t, (∀ n ∈ ns, special t n = special u n) → Q t) : Delivers i s x P es ns Q := by
  refine ⟨fun h => ?_, fun first e rest he hf hE => ?_⟩
  · obtain ⟨t, h1, h2, h3⟩ := resultWith_writes x v hl hg hp hm hc hk hns hs h
    exact ⟨t, v, hi.trans h1, hP, h2, hQ t h3⟩
  · have hA : special (setReg u x v) rA = special s rA := (special_setReg ..).trans (hs rA hns.1)
    rw [hi, he]
    exact finish_fault ((noneEnabled_congr hA).mpr hf) ((enabled_congr hA e).trans hE)

theorem jump_onlyPc (s : State) (p : Octa) : OnlyPc s (setPc s p) p :=
  ⟨fun _ => rfl, fun _ _ => rfl, fun _ => rfl, ⟨rfl, rfl⟩, rfl⟩

theorem next_onlyPc (s : State) : OnlyPc s (advance s) (s.pc + 4) :=
  ⟨fun _ => rfl, fun _ _ => rfl, fun _ => rfl, ⟨rfl, rfl⟩, rfl⟩

/-! ## Data accesses -/

theorem allAllowed_iff {l : Launch} {kind : AccessKind} {a n : Nat} :
    allAllowed l kind a n = true ↔ ∀ i < n, allowed l kind (a + i) = true := by
  simp [allAllowed, List.all_eq_true, List.mem_range]

theorem dataAddress_ok {s : State} {kind : AccessKind} {A B : Octa} {n : Nat} (h : UsesAddress s A n B)
    (hp : Permitted s kind B n) : dataAddress s kind A n = .ok B := by
  rcases h with ⟨h, rfl⟩ | ⟨h, hm, hB⟩
  · simp [dataAddress, alignedAddress, h, allAllowed_iff.mpr hp]
  · have h1 : A.toNat % n ≤ A.toNat := Nat.mod_le ..
    have h2 := A.isLt
    have h3 : (BitVec.ofNat 64 (A.toNat % n)).toNat = A.toNat % n := by
      rw [BitVec.toNat_ofNat, Nat.mod_eq_of_lt (by omega)]
    have h4 : A - BitVec.ofNat 64 (A.toNat % n) = B := by
      apply BitVec.eq_of_toNat_eq
      rw [BitVec.toNat_sub_of_le (by rw [BitVec.le_def, h3]; exact h1), h3, hB]
    simp only [dataAddress, alignedAddress, h, if_false, hm, h4, allAllowed_iff.mpr hp, if_true]

theorem mod_eq_zero_of_usesAddress {s : State} {A B : Octa} {n : Nat} (h : UsesAddress s A n B) : B.toNat % n = 0 := by
  rcases h with ⟨h, rfl⟩ | ⟨-, -, hB⟩
  · exact h
  · rw [hB]; exact Nat.sub_mod_eq_zero_of_mod_eq (Nat.mod_mod ..).symm

theorem dataAddress_misaligned {s : State} {kind : AccessKind} {A : Octa} {n : Nat} (h : A.toNat % n ≠ 0)
    (hm : s.launch.misalign = .fault) : dataAddress s kind A n = .error (.misalignedAccess A n) := by
  simp [dataAddress, alignedAddress, h, hm]

theorem dataAddress_unmapped {s : State} {kind : AccessKind} {A : Octa} {n : Nat} (h : A.toNat % n = 0)
    (hm : ¬ ∀ i < n, allowed s.launch kind (A.toNat + i) = true) :
    dataAddress s kind A n = .error (.memoryFault A n kind) := by
  have : allAllowed s.launch kind A.toNat n = false := by
    rw [← Bool.not_eq_true, allAllowed_iff]; exact hm
  simp [dataAddress, alignedAddress, h, this]

/-- A data access that is not turned away goes to a multiple of its size, so it stays within the address space. -/
theorem dataAddress_inv {s : State} {kind : AccessKind} {A B : Octa} {n : Nat}
    (h : dataAddress s kind A n = .ok B) : B.toNat % n = 0 ∧ ∀ i < n, allowed s.launch kind (B.toNat + i) = true := by
  simp only [dataAddress] at h
  split at h
  · simp at h
  · rename_i C hC
    split at h
    · rename_i hall
      injection h with h
      subst h
      refine ⟨?_, allAllowed_iff.mp hall⟩
      simp only [alignedAddress] at hC
      split at hC
      · injection hC with hC; subst hC; assumption
      · split at hC
        · simp at hC
        · injection hC with hC
          subst hC
          have h1 : A.toNat % n ≤ A.toNat := Nat.mod_le ..
          have h2 := A.isLt
          have h3 : (BitVec.ofNat 64 (A.toNat % n)).toNat = A.toNat % n := by
            rw [BitVec.toNat_ofNat, Nat.mod_eq_of_lt (by omega)]
          rw [BitVec.toNat_sub_of_le (by rw [BitVec.le_def, h3]; exact h1), h3]
          exact Nat.sub_mod_eq_zero_of_mod_eq (Nat.mod_mod ..).symm
    · simp at h

theorem memRead_ok {s : State} {A B : Octa} {n : Nat} (h : UsesAddress s A n B) (hp : Permitted s .read B n) :
    memRead s A n = .ok (Memory.readNat s.memory B.toNat n) := by
  simp [memRead, dataAddress_ok h hp]

theorem memWrite_ok {s : State} {A B : Octa} {n : Nat} (v : Nat) (h : UsesAddress s A n B)
    (hp : Permitted s .write B n) :
    memWrite s A n v = .ok { s with memory := Memory.writeNat s.memory B.toNat n v } := by
  simp [memWrite, dataAddress_ok h hp]

theorem load_eq {s : State} {A B : Octa} {n : Nat} (x : Byte) (f : Nat → Octa) (h : UsesAddress s A n B)
    (hp : Permitted s .read B n) :
    ∃ t, load s x A n f = .next t ∧ WritesReg s t x (f (Memory.readNat s.memory B.toNat n)) [] [] := by
  simp only [load, memRead_ok h hp]
  exact result_eq ..

theorem add_le_of_mod_eq_zero {a n : Nat} (ha : a < 2 ^ 64) (h : a % n = 0) (hn : n ∣ 2 ^ 64) : a + n ≤ 2 ^ 64 := by
  obtain ⟨k, rfl⟩ := Nat.dvd_of_mod_eq_zero h
  obtain ⟨m, hm⟩ := hn
  rw [hm] at ha ⊢
  have : k < m := Nat.lt_of_mul_lt_mul_left ha
  rw [← Nat.mul_succ]
  exact Nat.mul_le_mul_left n this

theorem store_eq {s : State} {A B : Octa} {n : Nat} (v : Nat) {es : List Event} (hw : Memory.wf s.memory)
    (hn : n ∣ 2 ^ 64) (h : UsesAddress s A n B) (hp : Permitted s .write B n) (he : NoneEnabled s es) :
    ∃ t, store s A n v es = .next t ∧ StoresBytes s t B.toNat n v es := by
  have hle := add_le_of_mod_eq_zero B.isLt (mod_eq_zero_of_usesAddress h) hn
  simp only [store, memWrite_ok v h hp]
  obtain ⟨t, ht, hE⟩ := finish_eq (s := { s with memory := Memory.writeNat s.memory B.toNat n v }) (es := es)
    ((noneEnabled_congr rfl).mpr he)
  refine ⟨advance t, ht, fun i hi => ?_, fun b hb => ?_, fun r => ?_, fun m hm => ?_, fun i => ?_, ⟨?_, ?_⟩, ?_⟩
  · rw [advance_memory, hE.memory]
    exact Memory.byteAt_writeNat n v hw hle hi
  · rw [advance_memory, hE.memory]
    exact Memory.byteAt_writeNat_outside _ n v hb
  · rw [readRef_advance]
    exact readRef_congr hE.locals hE.globals r
  · rw [special_advance, hE.specials m hm]; rfl
  · rw [special_advance]; exact hE.noted i
  · rw [advance_launch, hE.launch]
  · rw [advance_linkage, hE.linkage]
  · rw [advance_pc, hE.pc]

theorem load_fault {s : State} {A : Octa} {n : Nat} {e : Fault} (x : Byte) (f : Nat → Octa)
    (h : dataAddress s .read A n = .error e) : load s x A n f = .fault e := by
  simp [load, memRead, h, raise]

theorem store_fault {s : State} {A : Octa} {n : Nat} {e : Fault} (v : Nat) (es : List Event)
    (h : dataAddress s .write A n = .error e) : store s A n v es = .fault e := by
  simp [store, memWrite, h, raise]

/-! ## Host results -/

theorem hostResult_legal {s t : State} (h : legal s) : legal (hostResult s t) := by
  unfold hostResult
  dsimp only
  split
  · assumption
  · exact h

theorem linkageResult_legal {s t : State} (h : legal s) : legal (linkageResult s t) :=
  hostResult_legal (t := t) h

/-- The pc and the launch parameters play no part in what a legal state is. -/
theorem legal_setPc {s : State} (p : Octa) : legal (setPc s p) ↔ legal s := Iff.rfl

theorem hostResult_launch (s t : State) : (hostResult s t).launch.misalign = s.launch.misalign ∧
    (hostResult s t).launch.osTrap = s.launch.osTrap ∧
    (hostResult s t).launch.callLinkage = s.launch.callLinkage := by
  unfold hostResult
  dsimp only
  split <;> exact ⟨rfl, rfl, rfl⟩

end Sys2Proof.Machine
end

