-- ==== Sys2Proof/Laws/Frames.lean ====
section
/-! SUPPORT. What a next state differs by, for each shared operation that an instruction ends in: if the operation
answers a next state, that state is within `Frame` of the state before. -/

namespace Sys2Proof.Machine

/-- t differs from s at most by the register that x names, the special registers ns and the event bits of rA, memory
if `stores`, the pc and the count of drawn values; memory stays in canonical form. -/
structure Frame (s t : State) (x : Byte) (ns : List (Fin 32)) (stores : Bool) : Prop where
  regs : OtherRegsSame s t x
  specials : SpecialsSame s t (rA :: ns)
  events : EventsNoted s t [.D, .V, .W, .I, .O, .U, .Z, .X]
  memory : stores = false → t.memory = s.memory
  wf : Memory.wf s.memory → Memory.wf t.memory
  launch : t.launch = s.launch
  linkage : t.linkage = s.linkage

theorem EventsNoted.all {s t : State} {es : List Event} (h : EventsNoted s t es) :
    EventsNoted s t [.D, .V, .W, .I, .O, .U, .Z, .X] := by
  intro i
  rcases h i with h | ⟨h, e, -, h2⟩
  · exact .inl h
  · exact .inr ⟨h, e, by cases e <;> simp, h2⟩

/-- Events set bits below 8 alone, so bits 63:18 of rA stay 0. -/
theorem EventsNoted.rA_lt {s t : State} {es : List Event} (h : EventsNoted s t es)
    (hs : (special s rA).toNat < 2 ^ 18) : (special t rA).toNat < 2 ^ 18 := by
  apply Nat.lt_pow_two_of_testBit
  intro i hi
  have h0 : (special s rA).toNat.testBit i = false :=
    Nat.testBit_lt_two_pow (Nat.lt_of_lt_of_le hs (Nat.pow_le_pow_right (by decide) hi))
  rcases h i with h | ⟨-, e, -, rfl⟩
  · exact h.trans h0
  · have := e.bit_lt; omega

theorem Frame.legal {s t : State} {x : Byte} {ns : List (Fin 32)} {stores : Bool} (h : Frame s t x ns stores)
    (hG : rG ∉ ns) (hs : legal s) : legal t := by
  have hg : special t rG = special s rG := h.specials rG (by simp [hG]; decide)
  exact ⟨h.wf hs.1, hg ▸ hs.2.1, hg ▸ hs.2.2.1, h.events.rA_lt hs.2.2.2⟩

/-! ## Results in a register -/

/-- As `resultWith_writes`, read back from a next state. -/
theorem resultWith_frame {s u t : State} {x : Byte} {v : Octa} {es : List Event} {ns : List (Fin 32)}
    {stores : Bool} (h : resultWith u x v es = .next t)
    (hl : u.locals = s.locals) (hg : u.globals = s.globals) (hp : u.pc = s.pc) (hm : u.memory = s.memory)
    (hc : u.launch = s.launch) (hk : u.linkage = s.linkage) (hns : rA ∉ ns ∧ rG ∉ ns)
    (hs : SpecialsSame s u ns) : Frame s t x ns stores := by
  obtain ⟨w, h1, h2, h3⟩ := finish_inv h
  have hA : special u rA = special s rA := hs rA hns.1
  obtain ⟨t', ht, hw, -⟩ := resultWith_writes x v hl hg hp hm hc hk hns hs
    ((noneEnabled_congr ((special_setReg ..).trans hA)).mp h2)
  obtain rfl : t' = t := by rw [h] at ht; cases ht; rfl
  have hmem : t'.memory = s.memory := by rw [h1, advance_memory, h3.memory, setReg_memory, hm]
  exact ⟨hw.2.1, hw.2.2.1, hw.2.2.2.1.all, fun _ => hmem, fun w => hmem ▸ w, hw.2.2.2.2.2.1.1, hw.2.2.2.2.2.1.2⟩

theorem resultWith_frame_self {s t : State} {x : Byte} {v : Octa} {es : List Event} {stores : Bool}
    (h : resultWith s x v es = .next t) : Frame s t x [] stores :=
  resultWith_frame h rfl rfl rfl rfl rfl rfl (by decide) (fun _ _ => rfl)

theorem resultWith_frame_setSpecial {s t : State} {x : Byte} {v w : Octa} {es : List Event} {n : Fin 32}
    {stores : Bool} (hn : rA ∉ [n] ∧ rG ∉ [n]) (h : resultWith (setSpecial s n w) x v es = .next t) :
    Frame s t x [n] stores :=
  resultWith_frame h rfl rfl rfl rfl rfl rfl hn fun m hm => special_setSpecial_ne s w (by simpa using hm)

theorem result_frame {s t : State} {x : Byte} {v : Octa} {stores : Bool} (h : result s x v = .next t) :
    Frame s t x [] stores :=
  resultWith_frame_self (es := []) h

theorem resultAny_frame {s t : State} {x : Byte} {f : Octa → Octa} {es : List Event} {stores : Bool}
    (h : resultAny s x f es = .next t) : Frame s t x [] stores :=
  resultWith_frame h rfl rfl rfl rfl rfl rfl (by decide) (fun _ _ => rfl)

theorem deliver_frame {s t : State} {x : Byte} {r : FloatResult} {stores : Bool} (h : deliver s x r = .next t) :
    Frame s t x [] stores := by
  unfold deliver at h
  split at h
  · exact resultWith_frame_self h
  · exact resultAny_frame h
  · exact resultAny_frame h

theorem withZeroY_next {y : Byte} {i : Instr} {k : StepResult} {t : State} (h : withZeroY y i k = .next t) :
    y = 0 ∧ k = .next t := by
  unfold withZeroY at h
  split at h
  · exact ⟨‹_›, h⟩
  · cases h

theorem shiftLeft_frame {s t : State} {x : Byte} {y n : Octa} {stores : Bool} (h : shiftLeft s x y n = .next t) :
    Frame s t x [] stores := by
  unfold shiftLeft signedResult at h
  split at h <;> exact resultWith_frame_self h

/-! ## Transfers of control -/

theorem next_frame {s t : State} {x : Byte} {stores : Bool} (h : next s = .next t) : Frame s t x [] stores := by
  cases h
  exact ⟨fun _ _ => rfl, fun _ _ => rfl, fun _ => .inl rfl, fun _ => rfl, fun h => h, rfl, rfl⟩

theorem jump_frame {s t : State} {x : Byte} {p : Octa} {stores : Bool} (h : jump s p = .next t) :
    Frame s t x [] stores := by
  cases h
  exact ⟨fun _ _ => rfl, fun _ _ => rfl, fun _ => .inl rfl, fun _ => rfl, fun h => h, rfl, rfl⟩

theorem branch_frame {s t : State} {c : Cond} {x x' : Byte} {p : Octa} {stores : Bool}
    (h : branch s c x p = .next t) : Frame s t x' [] stores := by
  unfold branch at h
  split at h
  · exact jump_frame h
  · exact next_frame h

theorem condSet_frame {s t : State} {c : Cond} {x : Byte} {y v : Octa} {stores : Bool}
    (h : condSet s c x y v = .next t) : Frame s t x [] stores := by
  unfold condSet at h
  split at h
  · exact result_frame h
  · exact next_frame h

theorem goTo_frame {s t : State} {x : Byte} {p : Octa} {stores : Bool} (h : goTo s x p = .next t) :
    Frame s t x [] stores := by
  cases h
  refine ⟨fun r hr => readRef_setReg_ne _ _ hr, fun n _ => ?_, fun _ => .inl ?_, fun _ => ?_, fun h => ?_, ?_, ?_⟩ <;>
    simp
  exact h

/-! ## Loads and stores -/

theorem load_frame {s t : State} {x : Byte} {A : Octa} {n : Nat} {f : Nat → Octa} {stores : Bool}
    (h : load s x A n f = .next t) : Frame s t x [] stores := by
  unfold load at h
  split at h
  · cases h
  · exact result_frame h

theorem loadShort_frame {s t : State} {x : Byte} {A : Octa} {stores : Bool} (h : loadShort s x A = .next t) :
    Frame s t x [] stores := by
  unfold loadShort at h
  split at h
  · cases h
  · split at h
    · exact result_frame h
    · exact resultAny_frame h

/-- A store, from a state u that differs from s by the count of drawn values. -/
theorem store_frame {s u t : State} {x : Byte} {A : Octa} {n v : Nat} {es : List Event}
    (h : store u A n v es = .next t) (hn : n ∣ 2 ^ 64) (hl : u.locals = s.locals) (hg : u.globals = s.globals)
    (hm : u.memory = s.memory) (hc : u.launch = s.launch) (hk : u.linkage = s.linkage)
    (hsp : u.specials = s.specials) : Frame s t x [] true := by
  unfold store memWrite at h
  cases hd : dataAddress u .write A n with
  | error e => simp [hd, raise] at h
  | ok B =>
    simp only [hd] at h
    obtain ⟨w, rfl, -, hE⟩ := finish_inv h
    have hle := add_le_of_mod_eq_zero B.isLt (dataAddress_inv hd).1 hn
    refine ⟨fun r _ => ?_, fun m hm => ?_, EventsNoted.all (es := es) fun i => ?_, fun h => (by cases h), fun hw => ?_,
      ?_, ?_⟩
    · rw [readRef_advance, readRef_congr hE.locals hE.globals]; exact readRef_congr hl hg r
    · rw [special_advance, hE.specials m hm]; exact special_congr hsp m
    · have h1 : special { u with memory := Memory.writeNat u.memory B.toNat n v } rA = special s rA :=
        special_congr hsp rA
      have h2 := hE.noted i
      rw [h1] at h2
      exact h2
    · rw [advance_memory, hE.memory]; exact Memory.wf_writeNat _ _ (hm ▸ hw) hle
    · rw [advance_launch, hE.launch]; exact hc
    · rw [advance_linkage, hE.linkage]; exact hk

theorem store_frame_self {s t : State} {x : Byte} {A : Octa} {n v : Nat} {es : List Event}
    (h : store s A n v es = .next t) (hn : n ∣ 2 ^ 64) : Frame s t x [] true :=
  store_frame h hn rfl rfl rfl rfl rfl rfl

theorem storeShort_frame {s t : State} {x x' : Byte} {A : Octa} (h : storeShort s x A = .next t) :
    Frame s t x' [] true := by
  unfold storeShort at h
  split at h
  · exact store_frame_self h (by norm_num)
  · exact store_frame h (by norm_num) rfl rfl rfl rfl rfl rfl

/-! ## PUT -/

theorem exposeGlobals_specials (s : State) (a b : Nat) : (exposeGlobals s a b).specials = s.specials := by
  unfold exposeGlobals; split <;> rfl

theorem exposeGlobals_rest (s : State) (a b : Nat) : (exposeGlobals s a b).memory = s.memory ∧
    (exposeGlobals s a b).launch = s.launch ∧ (exposeGlobals s a b).locals = s.locals ∧
    (exposeGlobals s a b).pc = s.pc ∧ (exposeGlobals s a b).linkage = s.linkage := by
  unfold exposeGlobals; split <;> exact ⟨rfl, rfl, rfl, rfl, rfl⟩

/-- Only the globals from the new rG up to the old one change when rG is lowered, none when it is raised. -/
theorem exposeGlobals_globals (s : State) (a b : Nat) (i : Fin 224) (h : ¬ (b ≤ i.val + 32 ∧ i.val + 32 < a)) :
    (exposeGlobals s a b).globals[i.val] = s.globals[i.val] := by
  unfold exposeGlobals
  split
  · simp only [Vector.getElem_ofFn, h, if_false]
  · rfl

theorem special_putSpecial (s : State) (n m : Fin 32) (v : Octa) :
    special (putSpecial s n v) m = if m = n then v else special s m := by
  unfold putSpecial
  by_cases h : m = n
  · subst h; simp
  · rw [special_setSpecial_ne _ _ h, if_neg h]
    split
    · exact special_congr (exposeGlobals_specials ..) m
    · rfl

theorem putSpecial_rest (s : State) (n : Fin 32) (v : Octa) : (putSpecial s n v).memory = s.memory ∧
    (putSpecial s n v).launch = s.launch ∧ (putSpecial s n v).locals = s.locals ∧ (putSpecial s n v).pc = s.pc ∧
    (putSpecial s n v).linkage = s.linkage := by
  unfold putSpecial
  split
  · exact exposeGlobals_rest ..
  · exact ⟨rfl, rfl, rfl, rfl, rfl⟩

theorem execPut_next {s t : State} {x y z : Byte} (h : execPut x y z s = .next t) :
    y = 0 ∧ putNumberLegal x = true ∧ putValueLegal x (reg s z) = true ∧
      t = advance (putSpecial s (specialIndex x) (reg s z)) := by
  obtain ⟨hy, h⟩ := withZeroY_next h
  split at h
  · rename_i hc
    cases h
    exact ⟨hy, hc.1, hc.2, rfl⟩
  · cases h

end Sys2Proof.Machine
end

