-- ==== Sys2Proof/Laws/Operands.lean ====
section
/-! SUPPORT. Immediates and the wyde operand as numbers (spec/30_encoding.md R93, spec/47_wyde_immediate.md R410). -/

namespace Sys2Proof.Machine

@[simp] theorem imm_toNat (z : Byte) : (imm z).toNat = z.toNat := by
  have := z.isLt
  simp only [imm, BitVec.toNat_setWidth]
  omega

@[simp] theorem imm_toInt (z : Byte) : (imm z).toInt = z.toNat := by
  have := z.isLt
  rw [BitVec.toInt_eq_toNat_of_lt (by rw [imm_toNat]; omega), imm_toNat]

theorem wydeAt_eq (sh : Nat) (yz : Wyde) : wydeAt sh yz = BitVec.ofNat 64 (yz.toNat * 2 ^ sh) := by
  apply BitVec.eq_of_toNat_eq
  have := yz.isLt
  simp [wydeAt, Nat.shiftLeft_eq]

end Sys2Proof.Machine
end

