-- ==== Sys2Proof/Tests/Slice0.lean ====
section
/-! SUPPORT. Tests: the checks of WellFormed, words of the spec decoded, one step each of examples of the spec (the
expected values are the spec's), and for every statement with hypotheses states and operands that meet them. -/

set_option Elab.async false

namespace Sys2Proof.Tests

open Sys2Proof Sys2Proof.Machine

/-! ## States and outcomes -/

/-- The launch state with these registers and special registers set. -/
def start (regs : List (Byte × Octa)) (specials : List (Fin 32 × Octa) := []) : State :=
  regs.foldl (fun s p => setReg s p.1 p.2) (specials.foldl (fun s p => setSpecial s p.1 p.2) State.reset)

/-- The state after one step with the word w at pc, if there is one. -/
def run (w : Nat) (s : State) : Option State :=
  match step (s.withFetchWord 32 w) with
  | .next t => some t
  | _ => none

/-- x[1] after one step that goes on at pc + 4. -/
def x1 (w : Nat) (s : State) : Option Octa :=
  match run w s with
  | some t => if t.pc = s.pc + 4 then some (reg t 1) else none
  | none => none

/-- The fault of one step with the word w at pc. -/
def faultOf (w : Nat) (s : State) : Option Fault :=
  match step (s.withFetchWord 32 w) with
  | .fault f => some f
  | _ => none

/-- The unmodelled point of one step with the word w at pc. -/
def refusalOf (w : Nat) (s : State) : Option Refusal :=
  match step (s.withFetchWord 32 w) with
  | .refused r => some r
  | _ => none

/-- The launch state with the eight bytes of v at 0x2000. -/
def withOcta (s : State) (v : Nat) : State :=
  { s with memory := Memory.writeNat s.memory 0x2000 8 v }

/-! ## Well-formedness: each check refuses an ill-formed term -/

theorem test_wellFormed_accepts :
    [Instr.trap 0 255 0, .fix 1 0 2, .get 1 0 31, .put 7 0 1, .put 19 0 1, .put 31 0 255, .add 1 2 3].map WellFormed =
      [true, true, true, true, true, true, true] := by decide

theorem test_wellFormed_refuses_trap_x : WellFormed (.trap 1 5 0) = false := by decide

theorem test_wellFormed_refuses_trap_z : WellFormed (.trap 0 5 1) = false := by decide

theorem test_wellFormed_refuses_y_of_formats_4_and_5 :
    [Instr.fix 1 3 2, .fixu 1 3 2, .flot 1 3 2, .floti 1 3 2, .flotu 1 3 2, .flotui 1 3 2, .sflot 1 3 2, .sfloti 1 3 2,
      .sflotu 1 3 2, .sflotui 1 3 2, .fsqrt 1 3 2, .fint 1 3 2].all (fun i => !WellFormed i) = true := by decide

theorem test_wellFormed_refuses_get_y : WellFormed (.get 1 1 5) = false := by decide

theorem test_wellFormed_refuses_get_number : WellFormed (.get 1 0 32) = false := by decide

theorem test_wellFormed_refuses_put_y : WellFormed (.put 5 1 2) = false := by decide

theorem test_wellFormed_refuses_put_number : WellFormed (.put 32 0 2) = false := by decide

theorem test_wellFormed_refuses_put_readonly :
    [Instr.put 8 0 2, .put 12 0 2, .put 18 0 2].all (fun i => !WellFormed i) = true := by decide

/-! ## Decoding: one word for every opcode, written in the spec's examples -/

/-- Opcodes 0x00 to 0x0F: the words of the examples of 40_floating_point.md, 49_system.md. -/
theorem test_decode_00 : [
      0x00000500, 0x01010203, 0x02000000, 0x03010203, 0x04010203, 0x05010002, 0x06010203, 0x07010002,
      0x08010002, 0x090100C8, 0x0A010002, 0x0B0100C8, 0x0C010002, 0x0D0100C8, 0x0E010002, 0x0F0100C8].map
    (decodeTableWord 32) = [
      some (.trap 0 5 0), some (.fcmp 1 2 3), some .funord, some (.feql 1 2 3), some (.fadd 1 2 3),
      some (.fix 1 0 2), some (.fsub 1 2 3), some (.fixu 1 0 2), some (.flot 1 0 2), some (.floti 1 0 200),
      some (.flotu 1 0 2), some (.flotui 1 0 200), some (.sflot 1 0 2), some (.sfloti 1 0 200),
      some (.sflotu 1 0 2), some (.sflotui 1 0 200)] := by
  decide +kernel

/-- Opcodes 0x10 to 0x1F: the words of the examples of 40_floating_point.md, 41_integer_arithmetic.md. -/
theorem test_decode_10 : [
      0x10010203, 0x11000000, 0x12000000, 0x13000000, 0x14010203, 0x15010002, 0x16010203, 0x17010002,
      0x18010203, 0x19010207, 0x1A010203, 0x1B010210, 0x1C010203, 0x1D010202, 0x1E010203, 0x1F01020A].map
    (decodeTableWord 32) = [
      some (.fmul 1 2 3), some .fcmpe, some .fune, some .feqle, some (.fdiv 1 2 3), some (.fsqrt 1 0 2),
      some (.frem 1 2 3), some (.fint 1 0 2), some (.mul 1 2 3), some (.muli 1 2 7), some (.mulu 1 2 3),
      some (.mului 1 2 16), some (.div 1 2 3), some (.divi 1 2 2), some (.divu 1 2 3), some (.divui 1 2 10)] := by
  decide +kernel

/-- Opcodes 0x20 to 0x2F: the words of the examples of 41_integer_arithmetic.md. -/
theorem test_decode_20 : [
      0x20010203, 0x21010207, 0x22010203, 0x23010201, 0x24010203, 0x25010207, 0x26010203, 0x27010201,
      0x28010203, 0x29010205, 0x2A010203, 0x2B010205, 0x2C010203, 0x2D010205, 0x2E010203, 0x2F010205].map
    (decodeTableWord 32) = [
      some (.add 1 2 3), some (.addi 1 2 7), some (.addu 1 2 3), some (.addui 1 2 1), some (.sub 1 2 3),
      some (.subi 1 2 7), some (.subu 1 2 3), some (.subui 1 2 1), some (.addu2 1 2 3), some (.addu2i 1 2 5),
      some (.addu4 1 2 3), some (.addu4i 1 2 5), some (.addu8 1 2 3), some (.addu8i 1 2 5),
      some (.addu16 1 2 3), some (.addu16i 1 2 5)] := by
  decide +kernel

/-- Opcodes 0x30 to 0x3F: the words of the examples of 41_integer_arithmetic.md. -/
theorem test_decode_30 : [
      0x30010203, 0x31010201, 0x32010203, 0x33010201, 0x34010003, 0x35010305, 0x36010003, 0x37010305,
      0x38010203, 0x39010204, 0x3A010203, 0x3B010204, 0x3C010203, 0x3D010204, 0x3E010203, 0x3F010204].map
    (decodeTableWord 32) = [
      some (.cmp 1 2 3), some (.cmpi 1 2 1), some (.cmpu 1 2 3), some (.cmpui 1 2 1), some (.neg 1 0 3),
      some (.negi 1 3 5), some (.negu 1 0 3), some (.negui 1 3 5), some (.sl 1 2 3), some (.sli 1 2 4),
      some (.slu 1 2 3), some (.slui 1 2 4), some (.sr 1 2 3), some (.sri 1 2 4), some (.sru 1 2 3),
      some (.srui 1 2 4)] := by
  decide +kernel

/-- Opcodes 0x40 to 0x4F: the words of the examples of 42_branches.md. -/
theorem test_decode_40 : [
      0x40010003, 0x4101FFFE, 0x42010003, 0x4301FFFE, 0x44010003, 0x4501FFFE, 0x46010003, 0x4701FFFE,
      0x48010003, 0x4901FFFE, 0x4A010003, 0x4B01FFFE, 0x4C010003, 0x4D01FFFE, 0x4E010003, 0x4F01FFFE].map
    (decodeTableWord 32) = [
      some (.bn 1 0x0003), some (.bnb 1 0xFFFE), some (.bz 1 0x0003), some (.bzb 1 0xFFFE),
      some (.bp 1 0x0003), some (.bpb 1 0xFFFE), some (.bod 1 0x0003), some (.bodb 1 0xFFFE),
      some (.bnn 1 0x0003), some (.bnnb 1 0xFFFE), some (.bnz 1 0x0003), some (.bnzb 1 0xFFFE),
      some (.bnp 1 0x0003), some (.bnpb 1 0xFFFE), some (.bev 1 0x0003), some (.bevb 1 0xFFFE)] := by
  decide +kernel

/-- Opcodes 0x50 to 0x5F: the words of the examples of 42_branches.md. -/
theorem test_decode_50 : [
      0x50010003, 0x5101FFFE, 0x52010003, 0x5301FFFE, 0x54010003, 0x5501FFFE, 0x56010003, 0x5701FFFE,
      0x58010003, 0x5901FFFE, 0x5A010003, 0x5B01FFFE, 0x5C010003, 0x5D01FFFE, 0x5E010003, 0x5F01FFFE].map
    (decodeTableWord 32) = [
      some (.pbn 1 0x0003), some (.pbnb 1 0xFFFE), some (.pbz 1 0x0003), some (.pbzb 1 0xFFFE),
      some (.pbp 1 0x0003), some (.pbpb 1 0xFFFE), some (.pbod 1 0x0003), some (.pbodb 1 0xFFFE),
      some (.pbnn 1 0x0003), some (.pbnnb 1 0xFFFE), some (.pbnz 1 0x0003), some (.pbnzb 1 0xFFFE),
      some (.pbnp 1 0x0003), some (.pbnpb 1 0xFFFE), some (.pbev 1 0x0003), some (.pbevb 1 0xFFFE)] := by
  decide +kernel

/-- Opcodes 0x60 to 0x6F: the words of the examples of 43_conditional.md. -/
theorem test_decode_60 : [
      0x60010203, 0x6101022A, 0x62010203, 0x6301022A, 0x64010203, 0x6501022A, 0x66010203, 0x6701022A,
      0x68010203, 0x6901022A, 0x6A010203, 0x6B01022A, 0x6C010203, 0x6D01022A, 0x6E010203, 0x6F01022A].map
    (decodeTableWord 32) = [
      some (.csn 1 2 3), some (.csni 1 2 42), some (.csz 1 2 3), some (.cszi 1 2 42), some (.csp 1 2 3),
      some (.cspi 1 2 42), some (.csod 1 2 3), some (.csodi 1 2 42), some (.csnn 1 2 3), some (.csnni 1 2 42),
      some (.csnz 1 2 3), some (.csnzi 1 2 42), some (.csnp 1 2 3), some (.csnpi 1 2 42), some (.csev 1 2 3),
      some (.csevi 1 2 42)] := by
  decide +kernel

/-- Opcodes 0x70 to 0x7F: the words of the examples of 43_conditional.md. -/
theorem test_decode_70 : [
      0x70010203, 0x7101022A, 0x72010203, 0x7301022A, 0x74010203, 0x7501022A, 0x76010203, 0x7701022A,
      0x78010203, 0x7901022A, 0x7A010203, 0x7B01022A, 0x7C010203, 0x7D01022A, 0x7E010203, 0x7F01022A].map
    (decodeTableWord 32) = [
      some (.zsn 1 2 3), some (.zsni 1 2 42), some (.zsz 1 2 3), some (.zszi 1 2 42), some (.zsp 1 2 3),
      some (.zspi 1 2 42), some (.zsod 1 2 3), some (.zsodi 1 2 42), some (.zsnn 1 2 3), some (.zsnni 1 2 42),
      some (.zsnz 1 2 3), some (.zsnzi 1 2 42), some (.zsnp 1 2 3), some (.zsnpi 1 2 42), some (.zsev 1 2 3),
      some (.zsevi 1 2 42)] := by
  decide +kernel

/-- Opcodes 0x80 to 0x8F: the words of the examples of 44_loads.md. -/
theorem test_decode_80 : [
      0x80010203, 0x81010203, 0x82010203, 0x83010203, 0x84010203, 0x85010202, 0x86010203, 0x87010202,
      0x88010203, 0x89010204, 0x8A010203, 0x8B010204, 0x8C010203, 0x8D010200, 0x8E010203, 0x8F010200].map
    (decodeTableWord 32) = [
      some (.ldb 1 2 3), some (.ldbi 1 2 3), some (.ldbu 1 2 3), some (.ldbui 1 2 3), some (.ldw 1 2 3),
      some (.ldwi 1 2 2), some (.ldwu 1 2 3), some (.ldwui 1 2 2), some (.ldt 1 2 3), some (.ldti 1 2 4),
      some (.ldtu 1 2 3), some (.ldtui 1 2 4), some (.ldo 1 2 3), some (.ldoi 1 2 0), some (.ldou 1 2 3),
      some (.ldoui 1 2 0)] := by
  decide +kernel

/-- Opcodes 0x90 to 0x9F: the words of the examples of 44_loads.md, 48_control_transfer.md. -/
theorem test_decode_90 : [
      0x90010203, 0x91010204, 0x92010203, 0x93010204, 0x94000000, 0x95000000, 0x96000000, 0x97000000,
      0x98000000, 0x99000000, 0x9A000000, 0x9B000000, 0x9C000000, 0x9D000000, 0x9E010203, 0x9F010208].map
    (decodeTableWord 32) = [
      some (.ldsf 1 2 3), some (.ldsfi 1 2 4), some (.ldht 1 2 3), some (.ldhti 1 2 4), some .cswap,
      some .cswapi, some .ldunc, some .ldunci, some .ldvts, some .ldvtsi, some .preld, some .preldi,
      some .prego, some .pregoi, some (.go 1 2 3), some (.goi 1 2 8)] := by
  decide +kernel

/-- Opcodes 0xA0 to 0xAF: the words of the examples of 45_stores.md. -/
theorem test_decode_A0 : [
      0xA0010203, 0xA1010203, 0xA2010203, 0xA3010203, 0xA4010203, 0xA5010202, 0xA6010203, 0xA7010202,
      0xA8010203, 0xA9010204, 0xAA010203, 0xAB010204, 0xAC010203, 0xAD010200, 0xAE010203, 0xAF010200].map
    (decodeTableWord 32) = [
      some (.stb 1 2 3), some (.stbi 1 2 3), some (.stbu 1 2 3), some (.stbui 1 2 3), some (.stw 1 2 3),
      some (.stwi 1 2 2), some (.stwu 1 2 3), some (.stwui 1 2 2), some (.stt 1 2 3), some (.stti 1 2 4),
      some (.sttu 1 2 3), some (.sttui 1 2 4), some (.sto 1 2 3), some (.stoi 1 2 0), some (.stou 1 2 3),
      some (.stoui 1 2 0)] := by
  decide +kernel

/-- Opcodes 0xB0 to 0xBF: the words of the examples of 45_stores.md, 48_control_transfer.md. -/
theorem test_decode_B0 : [
      0xB0010203, 0xB1010204, 0xB2010203, 0xB3010204, 0xB4AB0203, 0xB5AB0208, 0xB6000000, 0xB7000000,
      0xB8000000, 0xB9000000, 0xBA000000, 0xBB000000, 0xBC000000, 0xBD000000, 0xBE000203, 0xBF000203].map
    (decodeTableWord 32) = [
      some (.stsf 1 2 3), some (.stsfi 1 2 4), some (.stht 1 2 3), some (.sthti 1 2 4), some (.stco 171 2 3),
      some (.stcoi 171 2 8), some .stunc, some .stunci, some .syncd, some .syncdi, some .prest, some .presti,
      some .syncid, some .syncidi, some (.call 0 2 3), some (.calli 0 2 3)] := by
  decide +kernel

/-- Opcodes 0xC0 to 0xCF: the words of the examples of 46_bitwise.md. -/
theorem test_decode_C0 : [
      0xC0010203, 0xC101020F, 0xC2010203, 0xC301020F, 0xC4010203, 0xC501020F, 0xC6010203, 0xC701020F,
      0xC8010203, 0xC901020F, 0xCA010203, 0xCB01020F, 0xCC010203, 0xCD01020F, 0xCE010203, 0xCF01020F].map
    (decodeTableWord 32) = [
      some (.or 1 2 3), some (.ori 1 2 15), some (.orn 1 2 3), some (.orni 1 2 15), some (.nor 1 2 3),
      some (.nori 1 2 15), some (.xor 1 2 3), some (.xori 1 2 15), some (.and 1 2 3), some (.andi 1 2 15),
      some (.andn 1 2 3), some (.andni 1 2 15), some (.nand 1 2 3), some (.nandi 1 2 15), some (.nxor 1 2 3),
      some (.nxori 1 2 15)] := by
  decide +kernel

/-- Opcodes 0xD0 to 0xDF: the words of the examples of 46_bitwise.md. -/
theorem test_decode_D0 : [
      0xD0010203, 0xD1010205, 0xD2010203, 0xD3010205, 0xD4010203, 0xD5010205, 0xD6010203, 0xD7010205,
      0xD8010203, 0xD901020F, 0xDA010203, 0xDB010200, 0xDC010203, 0xDD010203, 0xDE010203, 0xDF010203].map
    (decodeTableWord 32) = [
      some (.bdif 1 2 3), some (.bdifi 1 2 5), some (.wdif 1 2 3), some (.wdifi 1 2 5), some (.tdif 1 2 3),
      some (.tdifi 1 2 5), some (.odif 1 2 3), some (.odifi 1 2 5), some (.mux 1 2 3), some (.muxi 1 2 15),
      some (.sadd 1 2 3), some (.saddi 1 2 0), some (.mor 1 2 3), some (.mori 1 2 3), some (.mxor 1 2 3),
      some (.mxori 1 2 3)] := by
  decide +kernel

/-- Opcodes 0xE0 to 0xEF: the words of the examples of 47_wyde_immediate.md. -/
theorem test_decode_E0 : [
      0xE0011234, 0xE1011234, 0xE2011234, 0xE3011234, 0xE4010001, 0xE5010001, 0xE6010001, 0xE7010001,
      0xE801F0F0, 0xE901F0F0, 0xEA01F0F0, 0xEB01F0F0, 0xEC0100FF, 0xED0100FF, 0xEE0100FF, 0xEF0100FF].map
    (decodeTableWord 32) = [
      some (.seth 1 0x1234), some (.setmh 1 0x1234), some (.setml 1 0x1234), some (.setl 1 0x1234),
      some (.inch 1 0x0001), some (.incmh 1 0x0001), some (.incml 1 0x0001), some (.incl 1 0x0001),
      some (.orh 1 0xF0F0), some (.ormh 1 0xF0F0), some (.orml 1 0xF0F0), some (.orl 1 0xF0F0),
      some (.andnh 1 0x00FF), some (.andnmh 1 0x00FF), some (.andnml 1 0x00FF), some (.andnl 1 0x00FF)] := by
  decide +kernel

/-- Opcodes 0xF0 to 0xFF: the words of the examples of 48_control_transfer.md, 49_system.md. -/
theorem test_decode_F0 : [
      0xF0000003, 0xF1FFFFFD, 0xF2000000, 0xF3000000, 0xF4010004, 0xF501FFFC, 0xF6050002, 0xF7050001,
      0xF8000000, 0xF9000000, 0xFA000000, 0xFB000000, 0xFC000000, 0xFD000000, 0xFE010005, 0xFF000000].map
    (decodeTableWord 32) = [
      some (.jmp 0x000003), some (.jmpb 0xFFFFFD), some .pushj, some .pushjb, some (.geta 1 0x0004),
      some (.getab 1 0xFFFC), some (.put 5 0 2), some .puti, some .ret, some .resume, some .save, some .unsave,
      some .sync, some .swym, some (.get 1 0 5), some .trip] := by
  decide +kernel

/-- Bytes that are no operands are kept and seen by the checks (30_encoding.md R115). -/
theorem test_decode_keeps_other_bytes :
    [0x05010302, 0x00010500, 0xFE010705].map (decodeTableWord 32) =
      [some (.fix 1 3 2), some (.trap 1 5 0), some (.get 1 7 5)] := by decide +kernel

/-! ## One step: examples of the spec -/

/-- 40_floating_point.md. -/
theorem test_floating_point_results :
    ([
      (0x01010203, [(2, 0x3FF0000000000000), (3, 0x4000000000000000)], 0xFFFFFFFFFFFFFFFF),
      (0x03010203, [(2, 0x8000000000000000), (3, 0)], 1),
      (0x04010203, [(2, 0x3FF0000000000000), (3, 0x4000000000000000)], 0x4008000000000000),
      (0x05010002, [(2, 0x4004000000000000)], 2),
      (0x06010203, [(2, 0x3FF0000000000000), (3, 0x4000000000000000)], 0xBFF0000000000000),
      (0x07010002, [(2, 0x4004000000000000)], 2), (0x08010002, [(2, 0xFFFFFFFFFFFFFFFF)], 0xBFF0000000000000),
      (0x090100C8, [], 0x4069000000000000), (0x0A010002, [(2, 0xFFFFFFFFFFFFFFFF)], 0x43F0000000000000),
      (0x0B0100C8, [], 0x4069000000000000), (0x0C010002, [(2, 0xFFFFFFFFFFFFFFFF)], 0xBFF0000000000000),
      (0x0D0100C8, [], 0x4069000000000000), (0x0E010002, [(2, 0xFFFFFFFFFFFFFFFF)], 0x43F0000000000000),
      (0x0F0100C8, [], 0x4069000000000000),
      (0x10010203, [(2, 0x4008000000000000), (3, 0x3FE0000000000000)], 0x3FF8000000000000),
      (0x14010203, [(2, 0x3FF0000000000000), (3, 0x4000000000000000)], 0x3FE0000000000000),
      (0x15010002, [(2, 0x4010000000000000)], 0x4000000000000000),
      (0x16010203, [(2, 0x4014000000000000), (3, 0x4008000000000000)], 0xBFF0000000000000),
      (0x17010002, [(2, 0x4004000000000000)], 0x4000000000000000)] :
        List (Nat × List (Byte × Octa) × Octa)).all (fun c => x1 c.1 (start c.2.1) == some c.2.2) = true := by
  decide +kernel

/-- 41_integer_arithmetic.md. -/
theorem test_integer_results :
    ([
      (0x18010203, [(2, 5), (3, 0xFFFFFFFFFFFFFFF9)], 0xFFFFFFFFFFFFFFDD),
      (0x19010207, [(2, 0xFFFFFFFFFFFFFFFB)], 0xFFFFFFFFFFFFFFDD), (0x20010203, [(2, 5), (3, 7)], 0xC),
      (0x21010207, [(2, 5)], 0xC), (0x22010203, [(2, 0xFFFFFFFFFFFFFFFF), (3, 1)], 0),
      (0x23010201, [(2, 0xFFFFFFFFFFFFFFFF)], 0), (0x24010203, [(2, 5), (3, 7)], 0xFFFFFFFFFFFFFFFE),
      (0x25010207, [(2, 5)], 0xFFFFFFFFFFFFFFFE), (0x26010203, [(2, 0), (3, 1)], 0xFFFFFFFFFFFFFFFF),
      (0x27010201, [(2, 0)], 0xFFFFFFFFFFFFFFFF), (0x28010203, [(2, 3), (3, 0x1000)], 0x1006),
      (0x29010205, [(2, 3)], 0xB), (0x2A010203, [(2, 3), (3, 0x1000)], 0x100C), (0x2B010205, [(2, 3)], 0x11),
      (0x2C010203, [(2, 3), (3, 0x1000)], 0x1018), (0x2D010205, [(2, 3)], 0x1D),
      (0x2E010203, [(2, 3), (3, 0x1000)], 0x1030), (0x2F010205, [(2, 3)], 0x35),
      (0x30010203, [(2, 0x8000000000000000), (3, 1)], 0xFFFFFFFFFFFFFFFF),
      (0x31010201, [(2, 0x8000000000000000)], 0xFFFFFFFFFFFFFFFF),
      (0x32010203, [(2, 0x8000000000000000), (3, 1)], 1), (0x33010201, [(2, 0x8000000000000000)], 1),
      (0x34010003, [(3, 5)], 0xFFFFFFFFFFFFFFFB), (0x35010305, [], 0xFFFFFFFFFFFFFFFE),
      (0x36010003, [(3, 5)], 0xFFFFFFFFFFFFFFFB), (0x37010305, [], 0xFFFFFFFFFFFFFFFE),
      (0x38010203, [(2, 3), (3, 4)], 0x30), (0x39010204, [(2, 3)], 0x30),
      (0x3A010203, [(2, 0xF000000000000001), (3, 4)], 0x10), (0x3B010204, [(2, 0xF000000000000001)], 0x10),
      (0x3C010203, [(2, 0xFFFFFFFFFFFFFF00), (3, 4)], 0xFFFFFFFFFFFFFFF0),
      (0x3D010204, [(2, 0xFFFFFFFFFFFFFF00)], 0xFFFFFFFFFFFFFFF0),
      (0x3E010203, [(2, 0xFFFFFFFFFFFFFF00), (3, 4)], 0xFFFFFFFFFFFFFF0),
      (0x3F010204, [(2, 0xFFFFFFFFFFFFFF00)], 0xFFFFFFFFFFFFFF0)] :
        List (Nat × List (Byte × Octa) × Octa)).all (fun c => x1 c.1 (start c.2.1) == some c.2.2) = true := by
  decide +kernel

/-- 46_bitwise.md. -/
theorem test_bitwise_results :
    ([
      (0xC0010203, [(2, 0x123456789ABCDEF), (3, 0xFF00FF0F0F3355)], 0x1FF45FF8FAFFFFF),
      (0xC101020F, [(2, 0x123456789ABCDEF)], 0x123456789ABCDEF),
      (0xC2010203, [(2, 0x123456789ABCDEF), (3, 0xFF00FF0F0F3355)], 0xFF23FF67F9FBCDEF),
      (0xC301020F, [(2, 0x123456789ABCDEF)], 0xFFFFFFFFFFFFFFFF),
      (0xC4010203, [(2, 0x123456789ABCDEF), (3, 0xFF00FF0F0F3355)], 0xFE00BA0070500000),
      (0xC501020F, [(2, 0x123456789ABCDEF)], 0xFEDCBA9876543210),
      (0xC6010203, [(2, 0x123456789ABCDEF), (3, 0xFF00FF0F0F3355)], 0x1DC459886A4FEBA),
      (0xC701020F, [(2, 0x123456789ABCDEF)], 0x123456789ABCDE0),
      (0xC8010203, [(2, 0x123456789ABCDEF), (3, 0xFF00FF0F0F3355)], 0x230067090B0145),
      (0xC901020F, [(2, 0x123456789ABCDEF)], 0xF),
      (0xCA010203, [(2, 0x123456789ABCDEF), (3, 0xFF00FF0F0F3355)], 0x100450080A0CCAA),
      (0xCB01020F, [(2, 0x123456789ABCDEF)], 0x123456789ABCDE0),
      (0xCC010203, [(2, 0x123456789ABCDEF), (3, 0xFF00FF0F0F3355)], 0xFFDCFF98F6F4FEBA),
      (0xCD01020F, [(2, 0x123456789ABCDEF)], 0xFFFFFFFFFFFFFFF0),
      (0xCE010203, [(2, 0x123456789ABCDEF), (3, 0xFF00FF0F0F3355)], 0xFE23BA67795B0145),
      (0xCF01020F, [(2, 0x123456789ABCDEF)], 0xFEDCBA987654321F),
      (0xD0010203, [(2, 0x102030405060708), (3, 0x801020704050603)], 0x1010001010105),
      (0xD1010205, [(2, 0x102030405060708)], 0x102030405060703),
      (0xD2010203, [(2, 0x102030405060708), (3, 0x801020704050603)], 0xFD01010105),
      (0xD3010205, [(2, 0x102030405060708)], 0x102030405060703),
      (0xD4010203, [(2, 0x102030405060708), (3, 0x801020704050603)], 0x1010105),
      (0xD5010205, [(2, 0x102030405060708)], 0x102030405060703), (0xD6010203, [(2, 5), (3, 9)], 0),
      (0xD7010205, [(2, 5)], 0), (0xDA010203, [(2, 0x123456789ABCDEF), (3, 0xFF00FF0F0F3355)], 0xF),
      (0xDB010200, [(2, 0x123456789ABCDEF)], 0x20),
      (0xDC010203, [(2, 0x123456789ABCDEF), (3, 0x102040810204080)], 0xEFCDAB8967452301),
      (0xDD010203, [(2, 0x123456789ABCDEF)], 0xEF),
      (0xDE010203, [(2, 0x123456789ABCDEF), (3, 0x102040810204080)], 0xEFCDAB8967452301),
      (0xDF010203, [(2, 0x123456789ABCDEF)], 0x22)] :
        List (Nat × List (Byte × Octa) × Octa)).all (fun c => x1 c.1 (start c.2.1) == some c.2.2) = true := by
  decide +kernel

/-- 47_wyde_immediate.md. -/
theorem test_wyde_results :
    ([
      (0xE0011234, [], 0x1234000000000000), (0xE1011234, [], 0x123400000000), (0xE2011234, [], 0x12340000),
      (0xE3011234, [], 0x1234), (0xE4010001, [(1, 0xFFFF000000000000)], 0),
      (0xE5010001, [(1, 0xFFFFFFFFFFFFFFFF)], 0xFFFFFFFF), (0xE6010001, [(1, 0xFFFFFFFFFFFFFFFF)], 0xFFFF),
      (0xE7010001, [(1, 0xFFFFFFFFFFFFFFFF)], 0), (0xE801F0F0, [(1, 0x123456789ABCDEF)], 0xF1F3456789ABCDEF),
      (0xE901F0F0, [(1, 0x123456789ABCDEF)], 0x123F5F789ABCDEF),
      (0xEA01F0F0, [(1, 0x123456789ABCDEF)], 0x1234567F9FBCDEF),
      (0xEB01F0F0, [(1, 0x123456789ABCDEF)], 0x123456789ABFDFF),
      (0xEC0100FF, [(1, 0xFFFFFFFFFFFFFFFF)], 0xFF00FFFFFFFFFFFF),
      (0xED0100FF, [(1, 0xFFFFFFFFFFFFFFFF)], 0xFFFFFF00FFFFFFFF),
      (0xEE0100FF, [(1, 0xFFFFFFFFFFFFFFFF)], 0xFFFFFFFFFF00FFFF),
      (0xEF0100FF, [(1, 0xFFFFFFFFFFFFFFFF)], 0xFFFFFFFFFFFFFF00)] :
        List (Nat × List (Byte × Octa) × Octa)).all (fun c => x1 c.1 (start c.2.1) == some c.2.2) = true := by
  decide +kernel

/-- 43_conditional.md: the condition holds, then fails. -/
theorem test_conditional_results :
    ([
      (0x60010203, [(1, 0x1111), (2, 0xFFFFFFFFFFFFFFFF), (3, 0xAAAA)], 0xAAAA),
      (0x60010203, [(1, 0x1111), (2, 0), (3, 0xAAAA)], 0x1111),
      (0x6101022A, [(1, 0x1111), (2, 0xFFFFFFFFFFFFFFFF)], 0x2A), (0x6101022A, [(1, 0x1111), (2, 0)], 0x1111),
      (0x62010203, [(1, 0x1111), (2, 0), (3, 0xAAAA)], 0xAAAA),
      (0x62010203, [(1, 0x1111), (2, 0x8000000000000000), (3, 0xAAAA)], 0x1111),
      (0x6301022A, [(1, 0x1111), (2, 0)], 0x2A), (0x6301022A, [(1, 0x1111), (2, 0x8000000000000000)], 0x1111),
      (0x64010203, [(1, 0x1111), (2, 5), (3, 0xAAAA)], 0xAAAA),
      (0x64010203, [(1, 0x1111), (2, 0), (3, 0xAAAA)], 0x1111), (0x6501022A, [(1, 0x1111), (2, 5)], 0x2A),
      (0x6501022A, [(1, 0x1111), (2, 0)], 0x1111), (0x66010203, [(1, 0x1111), (2, 7), (3, 0xAAAA)], 0xAAAA),
      (0x66010203, [(1, 0x1111), (2, 6), (3, 0xAAAA)], 0x1111), (0x6701022A, [(1, 0x1111), (2, 7)], 0x2A),
      (0x6701022A, [(1, 0x1111), (2, 6)], 0x1111), (0x68010203, [(1, 0x1111), (2, 0), (3, 0xAAAA)], 0xAAAA),
      (0x68010203, [(1, 0x1111), (2, 0xFFFFFFFFFFFFFFFF), (3, 0xAAAA)], 0x1111),
      (0x6901022A, [(1, 0x1111), (2, 0)], 0x2A), (0x6901022A, [(1, 0x1111), (2, 0xFFFFFFFFFFFFFFFF)], 0x1111),
      (0x6A010203, [(1, 0x1111), (2, 0x8000000000000000), (3, 0xAAAA)], 0xAAAA),
      (0x6A010203, [(1, 0x1111), (2, 0), (3, 0xAAAA)], 0x1111),
      (0x6B01022A, [(1, 0x1111), (2, 0x8000000000000000)], 0x2A), (0x6B01022A, [(1, 0x1111), (2, 0)], 0x1111),
      (0x6C010203, [(1, 0x1111), (2, 0), (3, 0xAAAA)], 0xAAAA),
      (0x6C010203, [(1, 0x1111), (2, 1), (3, 0xAAAA)], 0x1111), (0x6D01022A, [(1, 0x1111), (2, 0)], 0x2A),
      (0x6D01022A, [(1, 0x1111), (2, 1)], 0x1111), (0x6E010203, [(1, 0x1111), (2, 6), (3, 0xAAAA)], 0xAAAA),
      (0x6E010203, [(1, 0x1111), (2, 0xFFFFFFFFFFFFFFFF), (3, 0xAAAA)], 0x1111),
      (0x6F01022A, [(1, 0x1111), (2, 6)], 0x2A), (0x6F01022A, [(1, 0x1111), (2, 0xFFFFFFFFFFFFFFFF)], 0x1111),
      (0x70010203, [(2, 0xFFFFFFFFFFFFFFFF), (3, 0xAAAA)], 0xAAAA), (0x70010203, [(2, 0), (3, 0xAAAA)], 0),
      (0x7101022A, [(2, 0xFFFFFFFFFFFFFFFF)], 0x2A), (0x7101022A, [(2, 0)], 0),
      (0x72010203, [(2, 0), (3, 0xAAAA)], 0xAAAA), (0x72010203, [(2, 0x8000000000000000), (3, 0xAAAA)], 0),
      (0x7301022A, [(2, 0)], 0x2A), (0x7301022A, [(2, 0x8000000000000000)], 0),
      (0x74010203, [(2, 5), (3, 0xAAAA)], 0xAAAA), (0x74010203, [(2, 0), (3, 0xAAAA)], 0),
      (0x7501022A, [(2, 5)], 0x2A), (0x7501022A, [(2, 0)], 0), (0x76010203, [(2, 7), (3, 0xAAAA)], 0xAAAA),
      (0x76010203, [(2, 6), (3, 0xAAAA)], 0), (0x7701022A, [(2, 7)], 0x2A), (0x7701022A, [(2, 6)], 0),
      (0x78010203, [(2, 0), (3, 0xAAAA)], 0xAAAA), (0x78010203, [(2, 0xFFFFFFFFFFFFFFFF), (3, 0xAAAA)], 0),
      (0x7901022A, [(2, 0)], 0x2A), (0x7901022A, [(2, 0xFFFFFFFFFFFFFFFF)], 0),
      (0x7A010203, [(2, 0x8000000000000000), (3, 0xAAAA)], 0xAAAA), (0x7A010203, [(2, 0), (3, 0xAAAA)], 0),
      (0x7B01022A, [(2, 0x8000000000000000)], 0x2A), (0x7B01022A, [(2, 0)], 0),
      (0x7C010203, [(2, 0), (3, 0xAAAA)], 0xAAAA), (0x7C010203, [(2, 1), (3, 0xAAAA)], 0),
      (0x7D01022A, [(2, 0)], 0x2A), (0x7D01022A, [(2, 1)], 0), (0x7E010203, [(2, 6), (3, 0xAAAA)], 0xAAAA),
      (0x7E010203, [(2, 0xFFFFFFFFFFFFFFFF), (3, 0xAAAA)], 0), (0x7F01022A, [(2, 6)], 0x2A),
      (0x7F01022A, [(2, 0xFFFFFFFFFFFFFFFF)], 0)] :
        List (Nat × List (Byte × Octa) × Octa)).all (fun c => x1 c.1 (start c.2.1) == some c.2.2) = true := by
  decide +kernel

/-- MULU, MULUI, DIV, DIVI: x[1] and the special register written. -/
theorem test_products_and_remainders :
    ([
      (0x1A010203, [(2, 0xFFFFFFFFFFFFFFFF), (3, 0xFFFFFFFFFFFFFFFF)], 3, 1, 0xFFFFFFFFFFFFFFFE),
      (0x1B010210, [(2, 0x1234567890ABCDEF)], 3, 0x234567890ABCDEF0, 1),
      (0x1C010203, [(2, 0xFFFFFFFFFFFFFFF9), (3, 2)], 6, 0xFFFFFFFFFFFFFFFC, 1),
      (0x1D010202, [(2, 0xFFFFFFFFFFFFFFF9)], 6, 0xFFFFFFFFFFFFFFFC, 1)] :
        List (Nat × List (Byte × Octa) × Fin 32 × Octa × Octa)).all
      (fun c => (run c.1 (start c.2.1)).map (fun t => (reg t 1, special t c.2.2.1)) == some c.2.2.2) = true := by
  decide +kernel

/-- 42_branches.md: taken, then not taken; 48_control_transfer.md: JMP and JMPB. -/
theorem test_branches :
    ([
      (0x40010003, [(1, 0xFFFFFFFFFFFFFFFF)], 0x100C), (0x40010003, [(1, 0)], 0x1004),
      (0x4101FFFE, [(1, 0xFFFFFFFFFFFFFFFF)], 0xFF8), (0x4101FFFE, [(1, 0)], 0x1004),
      (0x42010003, [(1, 0)], 0x100C), (0x42010003, [(1, 0x8000000000000000)], 0x1004),
      (0x4301FFFE, [(1, 0)], 0xFF8), (0x4301FFFE, [(1, 0x8000000000000000)], 0x1004),
      (0x44010003, [(1, 5)], 0x100C), (0x44010003, [(1, 0)], 0x1004), (0x4501FFFE, [(1, 5)], 0xFF8),
      (0x4501FFFE, [(1, 0)], 0x1004), (0x46010003, [(1, 7)], 0x100C), (0x46010003, [(1, 6)], 0x1004),
      (0x4701FFFE, [(1, 7)], 0xFF8), (0x4701FFFE, [(1, 6)], 0x1004), (0x48010003, [(1, 0)], 0x100C),
      (0x48010003, [(1, 0xFFFFFFFFFFFFFFFF)], 0x1004), (0x4901FFFE, [(1, 0)], 0xFF8),
      (0x4901FFFE, [(1, 0xFFFFFFFFFFFFFFFF)], 0x1004), (0x4A010003, [(1, 0x8000000000000000)], 0x100C),
      (0x4A010003, [(1, 0)], 0x1004), (0x4B01FFFE, [(1, 0x8000000000000000)], 0xFF8),
      (0x4B01FFFE, [(1, 0)], 0x1004), (0x4C010003, [(1, 0)], 0x100C), (0x4C010003, [(1, 1)], 0x1004),
      (0x4D01FFFE, [(1, 0)], 0xFF8), (0x4D01FFFE, [(1, 1)], 0x1004), (0x4E010003, [(1, 6)], 0x100C),
      (0x4E010003, [(1, 0xFFFFFFFFFFFFFFFF)], 0x1004), (0x4F01FFFE, [(1, 6)], 0xFF8),
      (0x4F01FFFE, [(1, 0xFFFFFFFFFFFFFFFF)], 0x1004), (0x50010003, [(1, 0xFFFFFFFFFFFFFFFF)], 0x100C),
      (0x50010003, [(1, 0)], 0x1004), (0x5101FFFE, [(1, 0xFFFFFFFFFFFFFFFF)], 0xFF8),
      (0x5101FFFE, [(1, 0)], 0x1004), (0x52010003, [(1, 0)], 0x100C),
      (0x52010003, [(1, 0x8000000000000000)], 0x1004), (0x5301FFFE, [(1, 0)], 0xFF8),
      (0x5301FFFE, [(1, 0x8000000000000000)], 0x1004), (0x54010003, [(1, 5)], 0x100C),
      (0x54010003, [(1, 0)], 0x1004), (0x5501FFFE, [(1, 5)], 0xFF8), (0x5501FFFE, [(1, 0)], 0x1004),
      (0x56010003, [(1, 7)], 0x100C), (0x56010003, [(1, 6)], 0x1004), (0x5701FFFE, [(1, 7)], 0xFF8),
      (0x5701FFFE, [(1, 6)], 0x1004), (0x58010003, [(1, 0)], 0x100C),
      (0x58010003, [(1, 0xFFFFFFFFFFFFFFFF)], 0x1004), (0x5901FFFE, [(1, 0)], 0xFF8),
      (0x5901FFFE, [(1, 0xFFFFFFFFFFFFFFFF)], 0x1004), (0x5A010003, [(1, 0x8000000000000000)], 0x100C),
      (0x5A010003, [(1, 0)], 0x1004), (0x5B01FFFE, [(1, 0x8000000000000000)], 0xFF8),
      (0x5B01FFFE, [(1, 0)], 0x1004), (0x5C010003, [(1, 0)], 0x100C), (0x5C010003, [(1, 1)], 0x1004),
      (0x5D01FFFE, [(1, 0)], 0xFF8), (0x5D01FFFE, [(1, 1)], 0x1004), (0x5E010003, [(1, 6)], 0x100C),
      (0x5E010003, [(1, 0xFFFFFFFFFFFFFFFF)], 0x1004), (0x5F01FFFE, [(1, 6)], 0xFF8),
      (0x5F01FFFE, [(1, 0xFFFFFFFFFFFFFFFF)], 0x1004), (0xF0000003, [], 0x100C), (0xF0123456, [], 0x48E158),
      (0xF1FFFFFD, [], 0xFF4), (0xF1123456, [], 0xFFFFFFFFFC48E158)] :
        List (Nat × List (Byte × Octa) × Octa)).all
      (fun c => (run c.1 (start c.2.1)).map (·.pc) == some c.2.2) = true := by
  decide +kernel

/-- 48_control_transfer.md: GO, GOI, GETA, GETAB. -/
theorem test_go_and_geta :
    ([
      (0x9E010203, [(2, 0x4000), (3, 8)], 0x1004, 0x4008), (0x9F010208, [(2, 0x4000)], 0x1004, 0x4008),
      (0xF4010004, [], 0x1010, 0x1004), (0xF501FFFC, [], 0xFF0, 0x1004)] :
        List (Nat × List (Byte × Octa) × Octa × Octa)).all
      (fun c => (run c.1 (start c.2.1)).map (fun t => (reg t 1, t.pc)) == some c.2.2) = true := by
  decide +kernel

/-- 44_loads.md. -/
theorem test_loads :
    ([
      (0x80010203, [(2, 0x2000), (3, 3)], 0x8081828384858687, 0xFFFFFFFFFFFFFF83),
      (0x81010203, [(2, 0x2000)], 0x8081828384858687, 0xFFFFFFFFFFFFFF83),
      (0x82010203, [(2, 0x2000), (3, 3)], 0x8081828384858687, 0x83),
      (0x83010203, [(2, 0x2000)], 0x8081828384858687, 0x83),
      (0x84010203, [(2, 0x2000), (3, 2)], 0x8081828384858687, 0xFFFFFFFFFFFF8283),
      (0x85010202, [(2, 0x2000)], 0x8081828384858687, 0xFFFFFFFFFFFF8283),
      (0x86010203, [(2, 0x2000), (3, 2)], 0x8081828384858687, 0x8283),
      (0x87010202, [(2, 0x2000)], 0x8081828384858687, 0x8283),
      (0x88010203, [(2, 0x2000), (3, 4)], 0x8081828384858687, 0xFFFFFFFF84858687),
      (0x89010204, [(2, 0x2000)], 0x8081828384858687, 0xFFFFFFFF84858687),
      (0x8A010203, [(2, 0x2000), (3, 4)], 0x8081828384858687, 0x84858687),
      (0x8B010204, [(2, 0x2000)], 0x8081828384858687, 0x84858687),
      (0x8C010203, [(2, 0x2000), (3, 0)], 0x8081828384858687, 0x8081828384858687),
      (0x8D010200, [(2, 0x2000)], 0x8081828384858687, 0x8081828384858687),
      (0x8E010203, [(2, 0x2000), (3, 0)], 0x8081828384858687, 0x8081828384858687),
      (0x8F010200, [(2, 0x2000)], 0x8081828384858687, 0x8081828384858687),
      (0x90010203, [(2, 0x2000), (3, 4)], 0x3FC00000, 0x3FF8000000000000),
      (0x91010204, [(2, 0x2000)], 0x3FC00000, 0x3FF8000000000000),
      (0x92010203, [(2, 0x2000), (3, 4)], 0x8081828384858687, 0x8485868700000000),
      (0x93010204, [(2, 0x2000)], 0x8081828384858687, 0x8485868700000000)] :
        List (Nat × List (Byte × Octa) × Nat × Octa)).all
      (fun c => x1 c.1 (withOcta (start c.2.1) c.2.2.1) == some c.2.2.2) = true := by
  decide +kernel

/-- 45_stores.md: the address, the number of bytes and the number stored there. -/
theorem test_stores :
    ([
      (0xA0010203, [(1, 0xFFFFFFFFFFFFFF80), (2, 0x2000), (3, 3)], 0x2003, 1, 0x80),
      (0xA1010203, [(1, 0xFFFFFFFFFFFFFF80), (2, 0x2000)], 0x2003, 1, 0x80),
      (0xA2010203, [(1, 0x123456789ABCDEF), (2, 0x2000), (3, 3)], 0x2003, 1, 0xEF),
      (0xA3010203, [(1, 0x123456789ABCDEF), (2, 0x2000)], 0x2003, 1, 0xEF),
      (0xA4010203, [(1, 0xFFFFFFFFFFFFFFFE), (2, 0x2000), (3, 2)], 0x2002, 2, 0xFFFE),
      (0xA5010202, [(1, 0xFFFFFFFFFFFFFFFE), (2, 0x2000)], 0x2002, 2, 0xFFFE),
      (0xA6010203, [(1, 0x123456789ABCDEF), (2, 0x2000), (3, 2)], 0x2002, 2, 0xCDEF),
      (0xA7010202, [(1, 0x123456789ABCDEF), (2, 0x2000)], 0x2002, 2, 0xCDEF),
      (0xA8010203, [(1, 0x7FFFFFFF), (2, 0x2000), (3, 4)], 0x2004, 4, 0x7FFFFFFF),
      (0xA9010204, [(1, 0x7FFFFFFF), (2, 0x2000)], 0x2004, 4, 0x7FFFFFFF),
      (0xAA010203, [(1, 0x123456789ABCDEF), (2, 0x2000), (3, 4)], 0x2004, 4, 0x89ABCDEF),
      (0xAB010204, [(1, 0x123456789ABCDEF), (2, 0x2000)], 0x2004, 4, 0x89ABCDEF),
      (0xAC010203, [(1, 0x123456789ABCDEF), (2, 0x2000), (3, 0)], 0x2000, 8, 0x123456789ABCDEF),
      (0xAD010200, [(1, 0x123456789ABCDEF), (2, 0x2000)], 0x2000, 8, 0x123456789ABCDEF),
      (0xAE010203, [(1, 0x123456789ABCDEF), (2, 0x2000), (3, 0)], 0x2000, 8, 0x123456789ABCDEF),
      (0xAF010200, [(1, 0x123456789ABCDEF), (2, 0x2000)], 0x2000, 8, 0x123456789ABCDEF),
      (0xB0010203, [(1, 0x3FF8000000000000), (2, 0x2000), (3, 4)], 0x2004, 4, 0x3FC00000),
      (0xB1010204, [(1, 0x3FF8000000000000), (2, 0x2000)], 0x2004, 4, 0x3FC00000),
      (0xB2010203, [(1, 0x123456789ABCDEF), (2, 0x2000), (3, 4)], 0x2004, 4, 0x1234567),
      (0xB3010204, [(1, 0x123456789ABCDEF), (2, 0x2000)], 0x2004, 4, 0x1234567),
      (0xB4AB0203, [(2, 0x2000), (3, 8)], 0x2008, 8, 0xAB), (0xB5AB0208, [(2, 0x2000)], 0x2008, 8, 0xAB)] :
        List (Nat × List (Byte × Octa) × Nat × Nat × Nat)).all
      (fun c => (run c.1 (start c.2.1)).map (fun t => Memory.readNat t.memory c.2.2.1 c.2.2.2.1) ==
        some c.2.2.2.2) = true := by
  decide +kernel

/-- 41_integer_arithmetic.md R171: DIVU with rD below the divisor, and the corner where it is not. -/
theorem test_divu :
    (run 0x1E010203 (start [(2, 0xFFFFFFFFFFFFFFFF), (3, 10)])).map (fun t => (reg t 1, special t rR)) =
        some (0x1999999999999999, 5) ∧
      (run 0x1F01020A (start [(2, 0x1234)] [(rD, 10)])).map (fun t => (reg t 1, special t rR)) = some (10, 0x1234) := by
  decide +kernel

/-- 46_bitwise.md: MUX and MUXI with the spec's mask. -/
theorem test_mux :
    x1 0xD8010203 (start [(2, 0x0123456789ABCDEF), (3, 0x00FF00FF0F0F3355)] [(rM, 0xFFFFFFFF0000FF00)]) =
        some 0x012345670F0FCD55 ∧
      x1 0xD901020F (start [(2, 0x0123456789ABCDEF)] [(rM, 0xFFFFFFFF0000FF00)]) = some 0x012345670000CD0F := by
  decide +kernel

/-- 49_system.md R454, R461: PUT then GET of rM; PUT of rA; the values PUT refuses. -/
theorem test_put_and_get :
    (run 0xF6050002 (start [(2, 0xFFFF0000)])).map (special · rM) = some 0xFFFF0000 ∧
      (run 0xF6150002 (start [(2, 0x10000)])).map (special · rA) = some 0x10000 ∧
      x1 0xFE010005 (start [] [(rM, 0xFFFF0000)]) = some 0xFFFF0000 ∧
      faultOf 0xF6150002 (start [(2, 0x40000)]) = some (.illegalInstruction 0xF6150002) ∧
      faultOf 0xF6130002 (start [(2, 0x1F)]) = some (.illegalInstruction 0xF6130002) ∧
      faultOf 0xF6080002 (start []) = some (.illegalInstruction 0xF6080002) ∧
      faultOf 0xFE010020 (start []) = some (.illegalInstruction 0xFE010020) := by
  decide +kernel

/-- 49_system.md R460, R453, R452 and 48_control_transfer.md R435, R443: SWYM; TRAP and CALL without the parameters. -/
theorem test_swym_trap_call :
    (run 0xFDABCDEF (start [])).map (·.pc) = some 0x1004 ∧
      faultOf 0x00010500 (start []) = some (.illegalInstruction 0x00010500) ∧
      refusalOf 0x00000500 (start []) = some (.osTrapUnmodelled 5) ∧
      refusalOf 0xBE000203 (start []) = some (.linkageUnmodelled 0xBE000203) ∧
      refusalOf 0xF8000000 (start []) = some (.linkageUnmodelled 0xF8000000) := by
  decide +kernel

/-- 30_encoding.md R114: the thirty opcodes of status N, with bytes X, Y, Z that do not matter. -/
theorem test_status_n :
    statusN.all (fun op => faultOf (op.toNat * 2 ^ 24 + 0x0A0B0C) (start []) ==
      some (.unimplementedInstruction (BitVec.ofNat 32 (op.toNat * 2 ^ 24 + 0x0A0B0C)))) = true := by
  decide +kernel

/-- 60_exceptions.md R472, R473: every event, enabled, ends the run: D, V, W, I, O, U, Z, X. -/
theorem test_enabled_events :
    ([(0x1C010203, 1, 0, .D), (0x20010203, 0x7FFFFFFFFFFFFFFF, 1, .V), (0x05010002, 0x43E0000000000000, 0, .W),
      (0x04010203, 0x7FF0000000000000, 0xFFF0000000000000, .I), (0x10010203, 0x7FEFFFFFFFFFFFFF, 0x4000000000000000, .O),
      (0x10010203, 0x0010000000000000, 0x3FE0000000000000, .U), (0x14010203, 0x3FF0000000000000, 0, .Z),
      (0x14010203, 0x3FF0000000000000, 0x4008000000000000, .X)] : List (Nat × Octa × Octa × Event)).all
      (fun c => faultOf c.1 (start [(2, c.2.1), (3, c.2.2.1)] [(rA, 0xFF00)]) == some (.tripUnsupported c.2.2.2)) =
        true := by
  decide +kernel

/-- 20_memory.md R66, R67, R77: the faults of data accesses and of fetch. -/
theorem test_memory_faults :
    faultOf 0x8D010201 (start [(2, 0x2000)]) = some (.misalignedAccess 0x2001 8) ∧
      (match step { State.reset with pc := 0x1002 } with | .fault f => some f | _ => none) =
        some (.misalignedFetch 0x1002) ∧
      (match step { State.reset with launch := { Launch.reset with mapped := [] } } with | .fault f => some f | _ => none) =
        some (.memoryFault 0x1000 4 .fetch) ∧
      faultOf 0x8D010208 { start [(2, 0x2000)] with launch := { Launch.reset with mapped := [] } } =
        some (.memoryFault 0x2008 8 .read) := by
  decide +kernel

/-- 20_memory.md R66: under MISALIGN = truncate the low bits of the address are ignored. -/
theorem test_truncate :
    x1 0x8D010205 (withOcta { start [(2, 0x2000)] with launch := { Launch.reset with misalign := .truncate } } 77) =
      some 77 := by
  decide +kernel

/-! ## Witnesses: states and operands that meet the hypotheses of a statement, clause by clause -/

/-- Whether an instruction answers a next state. -/
def goesOn (i : Instr) (s : State) : Bool :=
  match exec i s with
  | .next _ => true
  | _ => false

theorem exec_next_of_goesOn {i : Instr} {s : State} (h : goesOn i s = true) : ∃ t, exec i s = .next t := by
  unfold goesOn at h
  split at h
  · exact ⟨_, ‹_›⟩
  · cases h

/-- The launch state under MISALIGN = truncate with registers $1, $2, $3. -/
def truncating (a b c : Octa) : State :=
  { start [(1, a), (2, b), (3, c)] with launch := { Launch.reset with misalign := .truncate } }

/-- The launch state with no address mapped and registers $1, $2, $3. -/
def unmapped (a b c : Octa) : State :=
  { start [(1, a), (2, b), (3, c)] with launch := { Launch.reset with mapped := [] } }

/-- The launch state with the first 0x2004 addresses mapped, MISALIGN = truncate and registers $1, $2, $3. -/
def halfMapped (a b c : Octa) : State :=
  { start [(1, a), (2, b), (3, c)] with
    launch := { Launch.reset with
      misalign := .truncate
      mapped := [{ base := 0, size := 0x2004, read := true, write := true, execute := true }] } }

/-- EveryWordDecodes: opcodes whose bytes are examined, the lowest and the highest, and the two neighbours of RET. -/
theorem witness_EveryWordDecodes :
    (0x00 : Byte) ∉ statusN ++ format15 ∧ (0xFE : Byte) ∉ statusN ++ format15 ∧ (0xF6 : Byte) ∉ statusN ++ format15 ∧
      (0xF5 : Byte) ∉ statusN ++ format15 := by decide

/-- IllFormedInstructionsFault: one ill-formed instruction for each check of WellFormed. -/
theorem witness_IllFormedInstructionsFault :
    [Instr.trap 1 5 0, .trap 0 5 1, .fix 1 1 2, .fint 1 255 2, .get 1 1 5, .get 1 0 32, .put 5 1 2, .put 32 0 2,
      .put 8 0 2, .put 18 0 2].map WellFormed = List.replicate 10 false := by decide

/-- StepRunsTheDecodedInstruction. -/
theorem witness_StepRunsTheDecodedInstruction :
    ∃ s : State, s.pc.toNat % 4 = 0 ∧ Permitted s .fetch s.pc 4 ∧
      decode ((List.range 4).map fun k => Memory.byteAt s.memory (s.pc.toNat + k)) = .ok (.ldo 1 2 3, []) :=
  ⟨State.reset.withFetchWord 32 0x8C010203, by decide +kernel, by unfold Permitted; decide +kernel, by decide +kernel⟩

/-- FetchFaults: each of the three misaligned positions, and an aligned pc where nothing is mapped. -/
theorem witness_FetchFaults :
    (∀ k : Fin 4, k ≠ 0 → ({ State.reset with pc := 0x1000 + BitVec.ofNat 64 k.val } : State).pc.toNat % 4 ≠ 0) ∧
      (unmapped 0 0 0).pc.toNat % 4 = 0 ∧ ¬ Permitted (unmapped 0 0 0) .fetch (unmapped 0 0 0).pc 4 := by
  refine ⟨by decide +kernel, by decide +kernel, ?_⟩
  unfold Permitted
  decide +kernel

/-- StepKeepsTheStateLegal: a legal state whose step answers a next state. -/
theorem witness_StepKeepsTheStateLegal :
    ∃ s t : State, legal s ∧ step s = .next t := by
  have h : (run 0x20010203 (start [(2, 5)])).isSome = true := by decide +kernel
  have hl : legal ((start [(2, 5)]).withFetchWord 32 0x20010203) := by decide +kernel
  unfold run at h
  split at h
  · exact ⟨_, _, hl, ‹_›⟩
  · cases h

/-- LaunchParametersAreFixed: both clauses, an instruction with opcode 0 and one without. -/
theorem witness_LaunchParametersAreFixed :
    (∃ s t : State, exec (.trap 0 5 0) s = .next t) ∧
      ∃ t, exec (.add 1 2 3) State.reset = .next t ∧ (Instr.add 1 2 3).opcode ≠ 0x00 := by
  refine ⟨⟨{ State.reset with launch := { Launch.reset with osTrap := some { mayEnd := [] } } }, ?_⟩, ?_⟩
  · exact exec_next_of_goesOn (by decide +kernel)
  · obtain ⟨t, h⟩ := exec_next_of_goesOn (i := .add 1 2 3) (s := State.reset) (by decide +kernel)
    exact ⟨t, h, by decide⟩

/-- EventBitsAreSticky, for an instruction with an event that is not enabled (an inexact division, on a sticky rA). -/
theorem witness_EventBitsAreSticky :
    ∃ t, exec (.fdiv 1 2 3) (start [(2, 0x3FF0000000000000), (3, 0x4008000000000000)] [(rA, 0x20080)]) = .next t ∧
      (Instr.fdiv 1 2 3).opcode ∉ hostOpcodes ∧ ∀ y z, Instr.fdiv 1 2 3 ≠ .put 21 y z := by
  obtain ⟨t, h⟩ := exec_next_of_goesOn (i := .fdiv 1 2 3)
    (s := start [(2, 0x3FF0000000000000), (3, 0x4008000000000000)] [(rA, 0x20080)]) (by decide +kernel)
  exact ⟨t, h, by decide, by simp⟩

/-- SpecialRegistersAreWrittenByFewInstructions: MULU, DIV (which write one) and ADD (which writes none). -/
theorem witness_SpecialRegistersAreWrittenByFewInstructions :
    ∀ i ∈ [Instr.mulu 1 2 3, .div 1 2 3, .divui 1 2 3, .add 1 2 3],
      (∃ t, exec i (start [(2, 7), (3, 2)]) = .next t) ∧ i.opcode ∉ hostOpcodes ∧ i.opcode ≠ 0xF6 := by
  intro i hi
  have h : [Instr.mulu 1 2 3, .div 1 2 3, .divui 1 2 3, .add 1 2 3].all
      (fun i => goesOn i (start [(2, 7), (3, 2)])) = true := by decide +kernel
  refine ⟨exec_next_of_goesOn (List.all_eq_true.mp h i hi), ?_⟩
  revert i
  decide

/-- OnlyStoresWriteMemory: the opcodes beside the stores, 0x9F and 0xC0. -/
theorem witness_OnlyStoresWriteMemory :
    ∀ i ∈ [Instr.goi 1 2 3, .or 1 2 3, .put 5 0 2],
      (∃ t, exec i State.reset = .next t) ∧ i.opcode ∉ hostOpcodes ∧ isStore i.opcode = false := by
  intro i hi
  have h : [Instr.goi 1 2 3, .or 1 2 3, .put 5 0 2].all (fun i => goesOn i State.reset) = true := by decide +kernel
  refine ⟨exec_next_of_goesOn (List.all_eq_true.mp h i hi), ?_⟩
  revert i
  decide

/-- OneGeneralRegisterIsWritten: an instruction that writes a global register, and one that writes none. -/
theorem witness_OneGeneralRegisterIsWritten :
    ∀ i ∈ [Instr.add 255 2 3, .stb 1 2 3, .swym],
      (∃ t, exec i State.reset = .next t) ∧ i.opcode ∉ hostOpcodes ∧ i.opcode ≠ 0xF6 := by
  intro i hi
  have h : [Instr.add 255 2 3, .stb 1 2 3, .swym].all (fun i => goesOn i State.reset) = true := by decide +kernel
  refine ⟨exec_next_of_goesOn (List.all_eq_true.mp h i hi), ?_⟩
  revert i
  decide

/-- OperandResolution: rG = 32 and rG = 255, with the numbers on both sides of it. -/
theorem witness_OperandResolution :
    (32 ≤ (special (start [] [(rG, 32)]) rG).toNat ∧
        ((special (start [] [(rG, 32)]) rG).toNat ≤ (32 : Byte).toNat ∧ (32 : Byte).toNat - 32 < 224) ∧
        (31 : Byte).toNat < (special (start [] [(rG, 32)]) rG).toNat) ∧
      32 ≤ (special State.reset rG).toNat ∧
        ((special State.reset rG).toNat ≤ (255 : Byte).toNat ∧ (255 : Byte).toNat - 32 < 224) ∧
        (254 : Byte).toNat < (special State.reset rG).toNat := by decide +kernel

/-- At State.reset no event is enabled. -/
theorem reset_noneEnabled (es : List Event) : NoneEnabled State.reset es := by
  intro e _
  cases e <;> decide +kernel

/-- A state whose enable bits are all 0. -/
theorem start_noneEnabled {regs : List (Byte × Octa)} (es : List Event)
    (h : [Event.D, .V, .W, .I, .O, .U, .Z, .X].all (fun e => !enabled (start regs) e) = true) :
    NoneEnabled (start regs) es := by
  intro e _
  cases e <;> simp_all

/-- EventsFollowTheirRule: no event enabled; the second of two events enabled, the first not. -/
theorem witness_EventsFollowTheirRule :
    NoneEnabled State.reset [.O, .X] ∧ ∃ first e rest, [Event.O, .X] = first ++ e :: rest ∧
      NoneEnabled (start [] [(rA, 0x100)]) first ∧ enabled (start [] [(rA, 0x100)]) e = true :=
  ⟨reset_noneEnabled _, [.O], .X, [], rfl, by unfold NoneEnabled; decide +kernel, by decide +kernel⟩

/-- The two cases of `Delivers` for every event list of the statements: none enabled, and the first or the second
event enabled. -/
theorem witness_Delivers :
    ([Event.D, .V, .W, .I, .O, .U, .Z, .X].all fun e =>
        !enabled State.reset e && enabled (start [] [(rA, BitVec.ofNat 64 (2 ^ (e.bit + 8)))]) e) = true ∧
      ∀ e ∈ [Event.O, .U], [e, .X] = [] ++ e :: [.X] ∧ [e, .X] = [e] ++ Event.X :: [] ∧
        NoneEnabled (start [] [(rA, 0x100)]) [e] ∧ enabled (start [] [(rA, 0x100)]) .X = true := by
  unfold NoneEnabled
  decide +kernel

/-- MemoryIsBigEndian: the highest eight addresses, and the byte below them. -/
theorem witness_MemoryIsBigEndian :
    Memory.wf [(2 ^ 64 - 9, 1), (2 ^ 64 - 1, 2)] ∧ 2 ^ 64 - 8 + 8 ≤ 2 ^ 64 ∧
      (2 ^ 64 - 9 < 2 ^ 64 - 8 ∨ 2 ^ 64 - 8 + 8 ≤ 2 ^ 64 - 9) := by decide

/-- SignedArithmetic: a sum at the largest number (no event), one above it (V), V not enabled and enabled. -/
theorem witness_SignedArithmetic :
    overflowOf 64 ((reg (start [(2, 0x7FFFFFFFFFFFFFFE), (3, 1)]) 2).toInt +
        (reg (start [(2, 0x7FFFFFFFFFFFFFFE), (3, 1)]) 3).toInt) = [] ∧
      overflowOf 64 ((reg (start [(2, 0x7FFFFFFFFFFFFFFF), (3, 1)]) 2).toInt +
        (reg (start [(2, 0x7FFFFFFFFFFFFFFF), (3, 1)]) 3).toInt) = [] ++ Event.V :: [] ∧
      NoneEnabled (start [(2, 0x7FFFFFFFFFFFFFFF), (3, 1)]) [.V] ∧
      enabled (start [(2, 0x7FFFFFFFFFFFFFFF), (3, 1)] [(rA, 0x4000)]) .V = true := by
  refine ⟨by decide +kernel, by decide +kernel, start_noneEnabled _ (by decide +kernel), by decide +kernel⟩

/-- DivideSigned: a zero divisor; -2^63 by -1; its neighbours -2^63 + 1 by -1 and -2^63 by 1. -/
theorem witness_DivideSigned :
    reg (start [(2, 9), (3, 0)]) 3 = 0 ∧
      ((reg (start [(2, 0x8000000000000000), (3, 0xFFFFFFFFFFFFFFFF)]) 2).toInt = -2 ^ 63 ∧
        (reg (start [(2, 0x8000000000000000), (3, 0xFFFFFFFFFFFFFFFF)]) 3).toInt = -1) ∧
      (reg (start [(2, 0x8000000000000001), (3, 0xFFFFFFFFFFFFFFFF)]) 3 ≠ 0 ∧
        (reg (start [(2, 0x8000000000000001), (3, 0xFFFFFFFFFFFFFFFF)]) 2).toInt ≠ -2 ^ 63) ∧
      (reg (start [(2, 0x8000000000000000), (3, 1)]) 3 ≠ 0 ∧
        (reg (start [(2, 0x8000000000000000), (3, 1)]) 3).toInt ≠ -1) ∧
      enabled (start [] [(rA, 0x8000)]) .D = true ∧ enabled (start [] [(rA, 0x4000)]) .V = true := by
  decide +kernel

/-- DivideUnsigned: rD one below the divisor, equal to it, and a zero divisor. -/
theorem witness_DivideUnsigned :
    (special (start [(3, 10)] [(rD, 9)]) rD).toNat < (reg (start [(3, 10)] [(rD, 9)]) 3).toNat ∧
      (reg (start [(3, 10)] [(rD, 10)]) 3).toNat ≤ (special (start [(3, 10)] [(rD, 10)]) rD).toNat ∧
      (reg (start [(3, 0)]) 3).toNat ≤ (special (start [(3, 0)]) rD).toNat := by decide +kernel

/-- ShiftLeftSigned: counts 63 and 64, with and without V. -/
theorem witness_ShiftLeftSigned :
    (reg (start [(2, 1), (3, 63)]) 3).toNat < 64 ∧ 64 ≤ (reg (start [(2, 1), (3, 64)]) 3).toNat ∧
      (reg (start [(2, 1), (3, 64)]) 2).toInt ≠ 0 ∧
      overflowOf 64 ((reg (start [(2, 1), (3, 63)]) 2).toInt * 2 ^ (reg (start [(2, 1), (3, 63)]) 3).toNat) = [.V] ∧
      overflowOf 64 ((reg (start [(2, 1), (3, 62)]) 2).toInt * 2 ^ (reg (start [(2, 1), (3, 62)]) 3).toNat) = [] ∧
      enabled (start [] [(rA, 0x4000)]) .V = true := by decide +kernel

/-- ConditionalSets: each condition with a value for which it holds and one for which it does not (0, 1, -1). -/
theorem witness_ConditionalSets :
    decide ((reg (start [(2, 0xFFFFFFFFFFFFFFFF)]) 2).toInt < 0) = true ∧
      decide ((reg (start [(2, 0)]) 2).toInt < 0) = false ∧
      decide (reg (start [(2, 0)]) 2 = 0) = true ∧ decide (reg (start [(2, 1)]) 2 = 0) = false ∧
      decide ((reg (start [(2, 1)]) 2).toInt > 0) = true ∧ decide ((reg (start [(2, 0)]) 2).toInt > 0) = false ∧
      (reg (start [(2, 1)]) 2).getLsbD 0 = true ∧ (reg (start [(2, 0)]) 2).getLsbD 0 = false ∧
      decide ((reg (start [(2, 0)]) 2).toInt ≥ 0) = true ∧
      decide ((reg (start [(2, 0xFFFFFFFFFFFFFFFF)]) 2).toInt ≥ 0) = false ∧
      decide (reg (start [(2, 1)]) 2 ≠ 0) = true ∧ decide (reg (start [(2, 0)]) 2 ≠ 0) = false ∧
      decide ((reg (start [(2, 0)]) 2).toInt ≤ 0) = true ∧ decide ((reg (start [(2, 1)]) 2).toInt ≤ 0) = false ∧
      (!(reg (start [(2, 0)]) 2).getLsbD 0) = true ∧ (!(reg (start [(2, 1)]) 2).getLsbD 0) = false := by decide +kernel

/-- IntegerLoads: the highest aligned octabyte, and an address that is truncated. -/
theorem witness_IntegerLoads :
    (UsesAddress (start [(2, 0xFFFFFFFFFFFFFFF8), (3, 0)]) (reg (start [(2, 0xFFFFFFFFFFFFFFF8), (3, 0)]) 2 +
          reg (start [(2, 0xFFFFFFFFFFFFFFF8), (3, 0)]) 3) 8 0xFFFFFFFFFFFFFFF8 ∧
        Permitted (start [(2, 0xFFFFFFFFFFFFFFF8), (3, 0)]) .read 0xFFFFFFFFFFFFFFF8 8) ∧
      UsesAddress (truncating 0 0x2000 7) (reg (truncating 0 0x2000 7) 2 + reg (truncating 0 0x2000 7) 3) 8 0x2000 ∧
        Permitted (truncating 0 0x2000 7) .read 0x2000 8 := by
  unfold UsesAddress Permitted
  decide +kernel

/-- DataAccessFaults: a misaligned address; an aligned address and a truncated one whose upper half is not mapped. -/
theorem witness_DataAccessFaults :
    ((reg (start [(2, 0x2000), (3, 7)]) 2 + reg (start [(2, 0x2000), (3, 7)]) 3).toNat % 8 ≠ 0 ∧
        (start [(2, 0x2000), (3, 7)]).launch.misalign = .fault) ∧
      (UsesAddress (halfMapped 0 0x2000 0) (reg (halfMapped 0 0x2000 0) 2 + reg (halfMapped 0 0x2000 0) 3) 8 0x2000 ∧
        ¬ Permitted (halfMapped 0 0x2000 0) .write 0x2000 8) ∧
      UsesAddress (halfMapped 0 0x2000 1) (reg (halfMapped 0 0x2000 1) 2 + reg (halfMapped 0 0x2000 1) 3) 8 0x2000 ∧
        ¬ Permitted (halfMapped 0 0x2000 1) .read 0x2000 8 := by
  unfold UsesAddress Permitted
  decide +kernel

/-- ShortFloatLoads: an address, a short NaN there, and a short number there (1.5). -/
theorem witness_ShortFloatLoads :
    UsesAddress (start [(2, 0x2000), (3, 4)]) (reg (start [(2, 0x2000), (3, 4)]) 2 +
        reg (start [(2, 0x2000), (3, 4)]) 3) 4 0x2004 ∧ Permitted (start [(2, 0x2000), (3, 4)]) .read 0x2004 4 ∧
      fromShort (Memory.readNat (withOcta (start []) 0x7F800001).memory 0x2004 4) = none ∧
      fromShort (Memory.readNat (withOcta (start []) 0x3FC00000).memory 0x2004 4) = some 0x3FF8000000000000 := by
  unfold UsesAddress Permitted
  decide +kernel

/-- ShortFloatsConvertExactly: the largest short NaN, the smallest subnormal, the largest number, an infinity, a zero. -/
theorem witness_ShortFloatsConvertExactly :
    (2 ^ 32 - 1 < 2 ^ 32 ∧ (unpack shortFormat (2 ^ 32 - 1)).isNaN = true) ∧
      [0x00000001, 0x7F7FFFFF, 0xFF800000, 0x80000000].map fromShort =
        [some 0x36A0000000000000, some 0x47EFFFFFE0000000, some 0xFFF0000000000000, some 0x8000000000000000] := by
  decide +kernel

/-- IntegerStores: STB of 127 (no event), of 128 (V), V not enabled and enabled; the highest address. -/
theorem witness_IntegerStores :
    Memory.wf (start [(1, 128), (2, 0xFFFFFFFFFFFFFFFF)]).memory ∧
      (UsesAddress (start [(1, 128), (2, 0xFFFFFFFFFFFFFFFF)]) (reg (start [(1, 128), (2, 0xFFFFFFFFFFFFFFFF)]) 2 +
        reg (start [(1, 128), (2, 0xFFFFFFFFFFFFFFFF)]) 3) 1 0xFFFFFFFFFFFFFFFF ∧
        Permitted (start [(1, 128), (2, 0xFFFFFFFFFFFFFFFF)]) .write 0xFFFFFFFFFFFFFFFF 1) ∧
      overflowOf 8 (reg (start [(1, 127)]) 1).toInt = [] ∧
      overflowOf 8 (reg (start [(1, 128), (2, 0xFFFFFFFFFFFFFFFF)]) 1).toInt = [.V] ∧
      NoneEnabled (start [(1, 128), (2, 0xFFFFFFFFFFFFFFFF)]) [.V] ∧
      Event.V ∈ overflowOf 8 (reg (start [(1, 128)] [(rA, 0x4000)]) 1).toInt ∧
      enabled (start [(1, 128)] [(rA, 0x4000)]) .V = true := by
  unfold UsesAddress Permitted NoneEnabled
  decide +kernel

/-- ShortFloatStores: an address; an overflowing number whose events are O and X, none enabled, and X enabled. -/
theorem witness_ShortFloatStores :
    Memory.wf (start [(1, 0x7FE0000000000000), (2, 0x2000)]).memory ∧
      (UsesAddress (start [(1, 0x7FE0000000000000), (2, 0x2000)]) (reg (start [(1, 0x7FE0000000000000), (2, 0x2000)]) 2 +
        reg (start [(1, 0x7FE0000000000000), (2, 0x2000)]) 3) 4 0x2000 ∧
        Permitted (start [(1, 0x7FE0000000000000), (2, 0x2000)]) .write 0x2000 4) ∧
      (fpRound shortFormat .near false ⟨false, 2 ^ 52, 971⟩).2 = [] ++ Event.O :: [.X] ∧
      NoneEnabled (start [(1, 0x7FE0000000000000), (2, 0x2000)]) [.O, .X] ∧
      NoneEnabled (start [(1, 0x7FE0000000000000)] [(rA, 0x100)]) [.O] ∧
      enabled (start [(1, 0x7FE0000000000000)] [(rA, 0x100)]) .X = true := by
  unfold UsesAddress Permitted NoneEnabled
  decide +kernel

/-- WydeImmediates. -/
theorem witness_WydeImmediates :
    (0xFFFF000000000000 : Octa) = BitVec.ofNat 64 ((0xFFFF : Wyde).toNat * 2 ^ 48) := by decide +kernel

/-- PutWritesTheSpecialRegister: registers 7 and 31, and rA with the largest value it takes. -/
theorem witness_PutWritesTheSpecialRegister :
    (∀ n ∈ ([7, 20, 21, 31] : List (Fin 32)), n ≠ rG ∧ ¬ (8 ≤ n.val ∧ n.val ≤ 18)) ∧
      (reg (start [(2, 0x3FFFF)]) 2).toNat < 2 ^ 18 := by decide +kernel

/-- PutToTheGlobalThreshold: 32 and 255; at 254 after 255 one global, G[254], becomes addressable and G[255] stays. -/
theorem witness_PutToTheGlobalThreshold :
    32 ≤ (reg (start [(2, 32)]) 2).toNat ∧ (reg (start [(2, 255)]) 2).toNat ≤ 255 ∧
      ¬ ((reg (start [(2, 254)]) 2).toNat ≤ (223 : Fin 224).val + 32 ∧
        (223 : Fin 224).val + 32 < (special (start [(2, 254)]) rG).toNat) := by decide +kernel

/-- PutFollowsItsChecks: values of x[Z] at the borders of the checks of rA and rG. -/
theorem witness_PutFollowsItsChecks :
    (reg (start [(2, 0x40000)]) 2).toNat ≥ 2 ^ 18 ∧ (reg (start [(2, 31)]) 2).toNat < 32 ∧
      (reg (start [(2, 256)]) 2).toNat > 255 ∧
      (reg (start [(2, 0x3FFFF)]) 2).toNat < 2 ^ 18 ∧
      (32 ≤ (reg (start [(2, 32)]) 2).toNat ∧ (reg (start [(2, 32)]) 2).toNat ≤ 255) ∧
      (32 ≤ (reg (start [(2, 255)]) 2).toNat ∧ (reg (start [(2, 255)]) 2).toNat ≤ 255) ∧
      (∀ x ∈ ([7, 19, 20, 21, 31] : List Byte), x.toNat < 32 ∧ ¬ (8 ≤ x.toNat ∧ x.toNat ≤ 18)) ∧
      (∀ x ∈ ([8, 18] : List Byte), 8 ≤ x.toNat ∧ x.toNat ≤ 18) ∧ (32 : Byte).toNat ≥ 32 := by
  decide +kernel

/-- GetReadsTheSpecialRegister: numbers 0 and 31 (read as they are), 8 (free), 32 (illegal). -/
theorem witness_GetReadsTheSpecialRegister :
    ((0 : Byte) = 0 ∧ (31 : Byte).toNat < 32 ∧ (31 : Byte) ≠ 8 ∧ (31 : Byte) ≠ 12 ∧ (31 : Byte) ≠ 17) ∧
      (8 : Byte).toNat < 32 ∧ 32 ≤ (32 : Byte).toNat ∧ (1 : Byte) ≠ 0 := by decide

/-- OpenParametersAbsent. -/
theorem witness_OpenParametersAbsent :
    State.reset.launch.osTrap = none ∧ State.reset.launch.callLinkage = false := by decide

/-- A state whose rG is 31, which no host function may return. -/
def belowThreshold : State :=
  setSpecial State.reset rG 31

/-- TrapWithOsTrapSupplied: a run in which function 0 may end the run and function 5 may not; its state is legal; a
legal state that a function may return, and one that is none. -/
theorem witness_TrapWithOsTrapSupplied :
    (∃ s : State, s.launch.osTrap = some { mayEnd := [0] } ∧ (5 : Byte) ∉ ({ mayEnd := [0] } : OsTrap).mayEnd ∧
      legal s) ∧ legal State.reset ∧ ¬ legal belowThreshold :=
  ⟨⟨{ State.reset with launch := { Launch.reset with osTrap := some { mayEnd := [0] } } }, rfl, by decide,
    by decide +kernel⟩, by decide +kernel, by decide +kernel⟩

/-- CallsWithLinkageSupplied: a legal state of a run with the linkage; a legal state that it may return, and one that
is none. -/
theorem witness_CallsWithLinkageSupplied :
    (∃ s : State, s.launch.callLinkage = true ∧ legal s) ∧ legal State.reset ∧ ¬ legal belowThreshold :=
  ⟨⟨{ State.reset with launch := { Launch.reset with callLinkage := true } }, rfl, by decide +kernel⟩,
    by decide +kernel, by decide +kernel⟩

/-- StatusNFaults: the second clause, at a word of opcode 0x02 and at one of opcode 0xFF. -/
theorem witness_StatusNFaults :
    ∀ w ∈ [0x02000000, 0xFF123456], (State.reset.withFetchWord 32 w).pc.toNat % 4 = 0 ∧
      Permitted (State.reset.withFetchWord 32 w) .fetch (State.reset.withFetchWord 32 w).pc 4 ∧
      Memory.byteAt (State.reset.withFetchWord 32 w).memory (State.reset.withFetchWord 32 w).pc.toNat ∈ statusN := by
  unfold Permitted
  decide +kernel

/-! ### Floating point: the patterns of every class -/

/-- The classes: quiet NaN, signalling NaN, both infinities, both zeros, 1, -3, the smallest subnormal. -/
theorem witness_patterns :
    [0x7FF8000000000000, 0x7FF0000000000001, 0x7FF0000000000000, 0xFFF0000000000000, 0, 0x8000000000000000,
        0x3FF0000000000000, 0xC008000000000000, 1].map (fun v => unpackDouble (reg (start [(2, v)]) 2)) =
      [.nan false, .nan true, .inf false, .inf true, .fin false 0 (-1074), .fin true 0 (-1074),
        .fin false (2 ^ 52) (-52), .fin true (3 * 2 ^ 51) (-51), .fin false 1 (-1074)] := by
  decide +kernel

/-- FloatingComparisons: a NaN; two numbers in each order and two equal zeros of either sign; I enabled. -/
theorem witness_FloatingComparisons :
    (Fp.nan true).isNaN = true ∧ (Fp.nan true).isSignalling = true ∧ (Fp.nan false).isSignalling = false ∧
      (Fp.fin true (3 * 2 ^ 51) (-51)).Below (.fin false (2 ^ 52) (-52)) ∧
      ¬ (Fp.fin true 0 (-1074)).Below (.fin false 0 (-1074)) ∧ ¬ (Fp.fin false 0 (-1074)).Below (.fin true 0 (-1074)) ∧
      (Fp.fin false (2 ^ 52) (-52)).Below (.inf false) ∧ enabled (start [] [(rA, 0x1000)]) .I = true := by
  refine ⟨rfl, rfl, rfl, ?_, ?_, ?_, rfl, by decide +kernel⟩ <;> norm_num [Fp.Below, rationalOf]

/-- FloatingAddition: the clauses on infinities, on a zero sum of both kinds and on a non-zero sum. -/
theorem witness_FloatingAddition :
    (false ≠ true ∧ (Fp.inf true).isNaN = false ∧ Fp.inf false ≠ .inf (!false)) ∧
      (Fp.fin false (2 ^ 52) (-52)).value + (Fp.fin true (2 ^ 52) (-52)).value = 0 ∧
      (Fp.fin false 0 (-1074)).value + (Fp.fin false 0 (-1074)).value = 0 ∧
      (Fp.fin false (2 ^ 52) (-52)).value + (Fp.fin true (3 * 2 ^ 51) (-51)).value ≠ 0 ∧
      (Fp.fin false (2 ^ 52) (-52)).value + (Fp.fin true (3 * 2 ^ 51) (-51)).value < 0 := by
  refine ⟨by decide, ?_, ?_, ?_, ?_⟩ <;> norm_num [Fp.value, rationalOf]

/-- The classes of registers $2 and $3 holding a and b. -/
def classes (p : Octa × Octa) : Fp × Fp :=
  (unpackDouble (reg (start [(2, p.1), (3, p.2)]) 2), unpackDouble (reg (start [(2, p.1), (3, p.2)]) 3))

/-- FloatingAddition: a NaN (signalling, quiet); infinities of two signs; an infinity with a number and with itself; numbers. -/
theorem witness_FloatingAddition_classes :
    ([(0x7FF0000000000001, 0x3FF0000000000000), (0x3FF0000000000000, 0x7FF8000000000000),
        (0x7FF0000000000000, 0xFFF0000000000000), (0xFFF0000000000000, 0x3FF0000000000000),
        (0x7FF0000000000000, 0x7FF0000000000000), (0, 0x8000000000000000),
        (0x3FF0000000000000, 0xC008000000000000)] : List (Octa × Octa)).map classes =
      [(.nan true, .fin false (2 ^ 52) (-52)), (.fin false (2 ^ 52) (-52), .nan false), (.inf false, .inf true),
        (.inf true, .fin false (2 ^ 52) (-52)), (.inf false, .inf false),
        (.fin false 0 (-1074), .fin true 0 (-1074)), (.fin false (2 ^ 52) (-52), .fin true (3 * 2 ^ 51) (-51))] := by
  decide +kernel

/-- FloatingMultiplication: a NaN; an infinity with a zero, with a number, with an infinity; a zero factor; numbers. -/
theorem witness_FloatingMultiplication :
    ([(0x7FF0000000000001, 0x3FF0000000000000), (0, 0x7FF8000000000000),
        (0x7FF0000000000000, 0x8000000000000000), (0x3FF0000000000000, 0xFFF0000000000000),
        (0x7FF0000000000000, 0xFFF0000000000000), (0, 0xC008000000000000), (1, 0xC008000000000000)] : List (Octa × Octa)).map classes =
      [(.nan true, .fin false (2 ^ 52) (-52)), (.fin false 0 (-1074), .nan false),
        (.inf false, .fin true 0 (-1074)), (.fin false (2 ^ 52) (-52), .inf true), (.inf false, .inf true),
        (.fin false 0 (-1074), .fin true (3 * 2 ^ 51) (-51)), (.fin false 1 (-1074), .fin true (3 * 2 ^ 51) (-51))] := by
  decide +kernel

/-- FloatingDivision: a NaN; two infinities; an infinity by a number and the reverse; 0 by 0; 1 by 0; 0 by -3; 1 by -3. -/
theorem witness_FloatingDivision :
    ([(0x7FF8000000000000, 0x3FF0000000000000), (0x7FF0000000000000, 0xFFF0000000000000),
        (0xFFF0000000000000, 0), (0xC008000000000000, 0x7FF0000000000000), (0, 0x8000000000000000),
        (0x3FF0000000000000, 0x8000000000000000), (0, 0xC008000000000000),
        (0x3FF0000000000000, 0xC008000000000000)] : List (Octa × Octa)).map classes =
      [(.nan false, .fin false (2 ^ 52) (-52)), (.inf false, .inf true), (.inf true, .fin false 0 (-1074)),
        (.fin true (3 * 2 ^ 51) (-51), .inf false), (.fin false 0 (-1074), .fin true 0 (-1074)),
        (.fin false (2 ^ 52) (-52), .fin true 0 (-1074)), (.fin false 0 (-1074), .fin true (3 * 2 ^ 51) (-51)),
        (.fin false (2 ^ 52) (-52), .fin true (3 * 2 ^ 51) (-51))] := by
  decide +kernel

/-- FloatingRemainder: a NaN; an infinite dividend; a zero divisor; an infinite divisor; a zero dividend; numbers. -/
theorem witness_FloatingRemainder :
    ([(0x3FF0000000000000, 0x7FF0000000000001), (0x7FF0000000000000, 0x3FF0000000000000),
        (0x3FF0000000000000, 0x8000000000000000), (0xC008000000000000, 0x7FF0000000000000),
        (0x8000000000000000, 0x3FF0000000000000), (0xC008000000000000, 0x3FF0000000000000)] : List (Octa × Octa)).map classes =
      [(.fin false (2 ^ 52) (-52), .nan true), (.inf false, .fin false (2 ^ 52) (-52)),
        (.fin false (2 ^ 52) (-52), .fin true 0 (-1074)), (.fin true (3 * 2 ^ 51) (-51), .inf false),
        (.fin true 0 (-1074), .fin false (2 ^ 52) (-52)),
        (.fin true (3 * 2 ^ 51) (-51), .fin false (2 ^ 52) (-52))] := by
  decide +kernel

/-- FloatingSquareRoot, FloatingInteger and the classes of FloatToFix, in $3: NaNs, infinities, zeros, numbers. -/
theorem witness_FloatingSquareRoot_FloatingInteger_FloatToFix :
    ([(0x3FF0000000000000, 0x7FF8000000000000), (0x3FF0000000000000, 0x7FF0000000000001),
        (0x3FF0000000000000, 0xFFF0000000000000), (0x3FF0000000000000, 0x7FF0000000000000),
        (0x3FF0000000000000, 0x8000000000000000), (0x3FF0000000000000, 0xC008000000000000),
        (0x3FF0000000000000, 0x3FF0000000000000), (0x3FF0000000000000, 1)] : List (Octa × Octa)).map classes =
      [(.fin false (2 ^ 52) (-52), .nan false), (.fin false (2 ^ 52) (-52), .nan true),
        (.fin false (2 ^ 52) (-52), .inf true), (.fin false (2 ^ 52) (-52), .inf false),
        (.fin false (2 ^ 52) (-52), .fin true 0 (-1074)),
        (.fin false (2 ^ 52) (-52), .fin true (3 * 2 ^ 51) (-51)),
        (.fin false (2 ^ 52) (-52), .fin false (2 ^ 52) (-52)), (.fin false (2 ^ 52) (-52), .fin false 1 (-1074))] := by
  decide +kernel

/-- The events of a product that underflows, none enabled and the second enabled. -/
theorem witness_FloatingMultiplication_events :
    (fpRound doubleFormat .near false ⟨false, 3, -1075⟩).2 = [] ++ Event.U :: [.X] ∧
      (fpRound doubleFormat .near false ⟨false, 3, -1075⟩).2 = [.U] ++ Event.X :: [] ∧
      NoneEnabled State.reset [.U, .X] ∧ NoneEnabled (start [] [(rA, 0x100)]) [.U] ∧
      enabled (start [] [(rA, 0x100)]) .X = true ∧ enabled (start [] [(rA, 0x400)]) .U = true := by
  unfold NoneEnabled
  decide +kernel

/-- FloatToFix: the largest magnitudes that fit, and the next ones. -/
theorem witness_FloatToFix :
    (-(2 ^ 63) ≤ (-(2 ^ 63) : Int) ∧ (-(2 ^ 63) : Int) ≤ 2 ^ 63 - 1) ∧
      ¬ (-(2 ^ 63) ≤ (2 ^ 63 : Int) ∧ (2 ^ 63 : Int) ≤ 2 ^ 63 - 1) ∧
      (-(2 ^ 63) ≤ (2 ^ 63 : Int) ∧ (2 ^ 63 : Int) ≤ 2 ^ 64 - 1) ∧
      ¬ (-(2 ^ 63) ≤ (2 ^ 64 : Int) ∧ (2 ^ 64 : Int) ≤ 2 ^ 64 - 1) ∧
      [0xC3E0000000000000, 0x43E0000000000000, 0x43F0000000000000].map unpackDouble =
        [.fin true (2 ^ 52) 11, .fin false (2 ^ 52) 11, .fin false (2 ^ 52) 12] := by decide +kernel

/-- FixToFloat: 0 and a number that is not; X not enabled and enabled. -/
theorem witness_FixToFloat :
    (reg (start [(2, 0)]) 2).toInt = 0 ∧ (reg (start [(2, 0x7FFFFFFFFFFFFFFF)]) 2).toInt ≠ 0 ∧
      (fpRound doubleFormat .near false ⟨false, 2 ^ 63 - 1, 0⟩).2 = [] ++ Event.X :: [] ∧
      enabled (start [] [(rA, 0x100)]) .X = true := by decide +kernel

/-- RoundingFollowsItsRule: numbers that stand for themselves, and one that stands for a number beside it. -/
theorem witness_RoundingFollowsItsRule :
    (Exact.standsFor ⟨false, 3, -2⟩ (3 / 4) ∧ Exact.standsFor ⟨false, 1, 1024⟩ (2 ^ 1024) ∧
        Exact.standsFor ⟨true, 1, -1074⟩ (1 / 2 ^ 1074)) ∧
      Exact.standsFor ⟨false, 2 ^ 60 + 1, -60⟩ (1 + 1 / 2 ^ 61) := by
  refine ⟨⟨?_, ?_, ?_⟩, ?_⟩ <;> norm_num [Exact.standsFor, Exact.magnitude]

/-- RoundingFollowsItsRule: the three clauses at their borders, for binary32: 2^128 overflows, the largest number does
not; 2^-126 is normal, 2^-149 is not. -/
theorem witness_RoundingFollowsItsRule_clauses :
    (((2 : Rat) ^ (23 + 1) - 1) * 2 ^ (-149 + 255 - 2 : Int) < (2 ^ 23 : Nat) * (2 : Rat) ^ (105 : Int)) ∧
      ((2 : Rat) ^ (-149 + 23 : Int) ≤ (2 ^ 24 - 1 : Nat) * (2 : Rat) ^ (104 : Int) ∧
        ((2 ^ 24 - 1 : Nat) : Rat) * (2 : Rat) ^ (104 : Int) ≤ ((2 : Rat) ^ (23 + 1) - 1) * 2 ^ (-149 + 255 - 2 : Int)) ∧
      (2 : Rat) ^ (-149 + 23 : Int) ≤ (2 ^ 23 : Nat) * (2 : Rat) ^ (-149 : Int) ∧
      ((2 ^ 23 : Nat) : Rat) * (2 : Rat) ^ (-172 : Int) < (2 : Rat) ^ (-149 + 23 : Int) := by
  refine ⟨?_, ⟨?_, ?_⟩, ?_, ?_⟩ <;> norm_num

end Sys2Proof.Tests
end

namespace Sys2Proof.Machine

/-! ## What each instruction can change

`exec_effect` says once, for all 256 opcodes, what a next state can be; the statements about legal states, event bits,
special registers, memory and general registers are read off it. -/

/-- The special registers other than rA that the instruction with this opcode may write, PUT and the host's opcodes
apart: rH for MULU and MULUI, rR for DIV, DIVI, DIVU and DIVUI (spec/10_state.md R28). -/
def specialsWrittenBy (op : Byte) : List (Fin 32) :=
  (if op = 0x1A ∨ op = 0x1B then [rH] else []) ++ if 0x1C ≤ op.toNat ∧ op.toNat ≤ 0x1F then [rR] else []

theorem rG_notMem_specialsWrittenBy (op : Byte) : rG ∉ specialsWrittenBy op := by
  unfold specialsWrittenBy
  split <;> split <;> decide

/-- How an instruction leads from s to a next state: what the host behind TRAP, CALL, CALLI and RET makes of s, the
write of PUT, or a change within the frame that the opcode allows. -/
inductive Effect (s : State) : Instr → State → Prop
  | trap (y : Byte) : Effect s (.trap 0 y 0) (hostResult s (Config.osTrap y s))
  | call (x y z : Byte) : Effect s (.call x y z)
      (setPc (linkageResult s (Config.callLinkage x (addrReg s y z) s)) (addrReg s y z))
  | calli (x y z : Byte) : Effect s (.calli x y z)
      (setPc (linkageResult s (Config.callLinkage x (addrImm s y z) s)) (addrImm s y z))
  | ret : Effect s .ret (linkageResult s (Config.retLinkage s))
  | put {x : Byte} (z : Byte) (hn : putNumberLegal x = true) (hv : putValueLegal x (reg s z) = true) :
      Effect s (.put x 0 z) (advance (putSpecial s (specialIndex x) (reg s z)))
  | framed {i : Instr} {t : State}
      (h : Frame s t i.operands.1 (specialsWrittenBy i.opcode) (isStore i.opcode)) : Effect s i t

/-! ## The endings that have no frame lemma yet -/

/-- A frame without special registers is a frame with any. -/
theorem Frame.of_nil {s t : State} {x : Byte} {ns : List (Fin 32)} {stores : Bool} (h : Frame s t x [] stores) :
    Frame s t x ns stores :=
  { h with specials := fun n hn => h.specials n fun hm => hn (List.mem_singleton.mp hm ▸ List.mem_cons_self) }

theorem unimplemented_ne_next {s t : State} : unimplemented s ≠ .next t :=
  nofun

theorem execGet_frame {s t : State} {x y z : Byte} {stores : Bool} (h : execGet x y z s = .next t) :
    Frame s t x [] stores := by
  obtain ⟨-, h⟩ := withZeroY_next h
  split at h
  · split at h
    · exact resultAny_frame h
    · exact result_frame h
  · cases h

theorem execTrap_effect {s t : State} {x y z : Byte} (h : execTrap x y z s = .next t) :
    Effect s (.trap x y z) t := by
  unfold execTrap at h
  split at h
  · rename_i hxz
    obtain ⟨rfl, rfl⟩ := hxz
    split at h
    · cases h
    · split at h
      · cases h
      · cases h
        exact .trap y
  · cases h

theorem callSubroutine_next {s t : State} {i : Instr} {x : Byte} {A : Octa} (h : callSubroutine s i x A = .next t) :
    t = setPc (linkageResult s (Config.callLinkage x A s)) A := by
  unfold callSubroutine at h
  split at h
  · cases h; rfl
  · cases h

theorem execRet_next {s t : State} (h : execRet s = .next t) : t = linkageResult s (Config.retLinkage s) := by
  unfold execRet at h
  split at h
  · cases h; rfl
  · cases h

theorem execPut_effect {s t : State} {x y z : Byte} (h : execPut x y z s = .next t) : Effect s (.put x y z) t := by
  obtain ⟨rfl, hn, hv, rfl⟩ := execPut_next h
  exact .put z hn hv

/-! ## All instructions -/

/-- Every next state is one that `Effect` allows. The cases are grouped by the operation that the instructions end
in. -/
theorem exec_effect {i : Instr} {s t : State} (h : exec i s = .next t) : Effect s i t := by
  cases i with
  | addu | addui | subu | subui | addu2 | addu2i | addu4 | addu4i | addu8 | addu8i | addu16 | addu16i | cmp | cmpi
  | cmpu | cmpui | negi | negu | negui | slu | slui | sr | sri | sru | srui | zsn | zsni | zsz | zszi | zsp | zspi
  | zsod | zsodi | zsnn | zsnni | zsnz | zsnzi | zsnp | zsnpi | zsev | zsevi | or | ori | orn | orni | nor | nori
  | xor | xori | and | andi | andn | andni | nand | nandi | nxor | nxori | bdif | bdifi | wdif | wdifi | tdif | tdifi
  | odif | odifi | mux | muxi | sadd | saddi | mor | mori | mxor | mxori | seth | setmh | setml | setl | inch
  | incmh | incml | incl | orh | ormh | orml | orl | andnh | andnmh | andnml | andnl | geta | getab =>
    exact .framed (result_frame h).of_nil
  | mul | muli | add | addi | sub | subi | neg => exact .framed (resultWith_frame_self h).of_nil
  | sl | sli => exact .framed (shiftLeft_frame h).of_nil
  | mulu | mului => exact .framed (resultWith_frame_setSpecial (n := rH) (es := []) (by decide) h)
  | div | divi => exact .framed (resultWith_frame_setSpecial (n := rR) (by decide) h)
  | divu | divui => exact .framed (resultWith_frame_setSpecial (n := rR) (es := []) (by decide) h)
  | fcmp | feql | fadd | fsub | fmul | fdiv | frem => exact .framed (deliver_frame h).of_nil
  | fix | fixu | flot | floti | flotu | flotui | sflot | sfloti | sflotu | sflotui | fsqrt | fint =>
    exact .framed (deliver_frame (withZeroY_next h).2).of_nil
  | bn | bnb | bz | bzb | bp | bpb | bod | bodb | bnn | bnnb | bnz | bnzb | bnp | bnpb | bev | bevb | pbn | pbnb
  | pbz | pbzb | pbp | pbpb | pbod | pbodb | pbnn | pbnnb | pbnz | pbnzb | pbnp | pbnpb | pbev | pbevb =>
    exact .framed (branch_frame h).of_nil
  | csn | csni | csz | cszi | csp | cspi | csod | csodi | csnn | csnni | csnz | csnzi | csnp | csnpi | csev
  | csevi => exact .framed (condSet_frame h).of_nil
  | jmp | jmpb => exact .framed (jump_frame h).of_nil
  | go | goi => exact .framed (goTo_frame h).of_nil
  | swym => exact .framed (next_frame h).of_nil
  | ldb | ldbi | ldbu | ldbui | ldw | ldwi | ldwu | ldwui | ldt | ldti | ldtu | ldtui | ldo | ldoi | ldou | ldoui
  | ldht | ldhti => exact .framed (load_frame h).of_nil
  | ldsf | ldsfi => exact .framed (loadShort_frame h).of_nil
  | stb | stbi | stbu | stbui | stw | stwi | stwu | stwui | stt | stti | sttu | sttui | sto | stoi | stou | stoui
  | stht | sthti | stco | stcoi => exact .framed (store_frame_self h (by norm_num)).of_nil
  | stsf | stsfi => exact .framed (storeShort_frame h).of_nil
  | get => exact .framed (execGet_frame h).of_nil
  | put => exact execPut_effect h
  | trap => exact execTrap_effect h
  | call x y z => exact callSubroutine_next h ▸ .call x y z
  | calli x y z => exact callSubroutine_next h ▸ .calli x y z
  | ret => exact execRet_next h ▸ .ret
  | funord | fcmpe | fune | feqle | cswap | cswapi | ldunc | ldunci | ldvts | ldvtsi | preld | preldi | prego
  | pregoi | stunc | stunci | syncd | syncdi | prest | presti | syncid | syncidi | pushj | pushjb | puti | resume
  | save | unsave | sync | trip => exact absurd h unimplemented_ne_next

/-- Apart from the opcodes behind which the host acts, an instruction is PUT or keeps to its frame. -/
theorem exec_put_or_frame {i : Instr} {s t : State} (h : exec i s = .next t) (hhost : i.opcode ∉ hostOpcodes) :
    (∃ x z, i = .put x 0 z ∧ putNumberLegal x = true ∧ t = advance (putSpecial s (specialIndex x) (reg s z))) ∨
      Frame s t i.operands.1 (specialsWrittenBy i.opcode) (isStore i.opcode) := by
  cases exec_effect h with
  | trap => exact absurd (show (0x00 : Byte) ∈ hostOpcodes by decide) hhost
  | call => exact absurd (show (0xBE : Byte) ∈ hostOpcodes by decide) hhost
  | calli => exact absurd (show (0xBF : Byte) ∈ hostOpcodes by decide) hhost
  | ret => exact absurd (show (0xF8 : Byte) ∈ hostOpcodes by decide) hhost
  | @put x z hn => exact .inl ⟨x, z, rfl, hn, rfl⟩
  | framed hf => exact .inr hf

theorem exec_frame {i : Instr} {s t : State} (h : exec i s = .next t) (hhost : i.opcode ∉ hostOpcodes)
    (hput : i.opcode ≠ 0xF6) : Frame s t i.operands.1 (specialsWrittenBy i.opcode) (isStore i.opcode) := by
  rcases exec_put_or_frame h hhost with ⟨x, z, rfl, -, -⟩ | hf
  · exact absurd rfl hput
  · exact hf

/-! ## PUT and the invariant -/

/-- The byte of a legal PUT is the number of the special register that it writes. -/
theorem eq_of_eq_specialIndex {x : Byte} {n : Fin 32} (hx : putNumberLegal x = true) (h : n = specialIndex x) :
    x = BitVec.ofNat 8 n.val := by
  simp only [putNumberLegal, Bool.and_eq_true, decide_eq_true_eq] at hx
  obtain ⟨hlt, -⟩ := hx
  simp [h, specialIndex, Nat.mod_eq_of_lt hlt]

/-- A legal PUT keeps the invariant: it checks the values of rG and rA, the two registers that the invariant bounds
(spec/49_system.md R451 c, d). -/
theorem putSpecial_legal {s : State} {x : Byte} {v : Octa} (hs : legal s) (hn : putNumberLegal x = true)
    (hv : putValueLegal x v = true) : legal (putSpecial s (specialIndex x) v) := by
  obtain ⟨hm, hG, hG', hA⟩ := hs
  have rG_bounds : 32 ≤ (special (putSpecial s (specialIndex x) v) rG).toNat ∧
      (special (putSpecial s (specialIndex x) v) rG).toNat ≤ 255 := by
    rw [special_putSpecial]
    split
    · obtain rfl : x = 19 := eq_of_eq_specialIndex hn ‹_›
      simpa [putValueLegal] using hv
    · exact ⟨hG, hG'⟩
  have rA_bound : (special (putSpecial s (specialIndex x) v) rA).toNat < 2 ^ 18 := by
    rw [special_putSpecial]
    split
    · obtain rfl : x = 21 := eq_of_eq_specialIndex hn ‹_›
      simpa [putValueLegal] using hv
    · exact hA
  exact ⟨(putSpecial_rest s _ v).1.symm ▸ hm, rG_bounds.1, rG_bounds.2, rA_bound⟩

theorem exec_legal {i : Instr} {s t : State} (hs : legal s) (h : exec i s = .next t) : legal t := by
  cases exec_effect h with
  | trap => exact hostResult_legal hs
  | call | calli => exact (legal_setPc _).mpr (linkageResult_legal hs)
  | ret => exact linkageResult_legal hs
  | put z hn hv => exact putSpecial_legal hs hn hv
  | framed hf => exact hf.legal (rG_notMem_specialsWrittenBy _) hs

theorem step_next {s t : State} (h : step s = .next t) : ∃ i, fetch s = .ok i ∧ exec i s = .next t := by
  unfold step at h
  split at h
  · cases h
  · exact ⟨_, ‹_›, h⟩

/-! ## Operand resolution -/

theorem cellOf_global {s : State} {k : Byte} (h32 : 32 ≤ (special s rG).toNat) (h : (special s rG).toNat ≤ k.toNat) :
    cellOf s k = .glob ⟨k.toNat - 32, by have := k.isLt; omega⟩ :=
  dif_pos ⟨h32.trans h, h⟩

theorem cellOf_local {s : State} {k : Byte} (h : k.toNat < (special s rG).toNat) : cellOf s k = .loc k :=
  dif_neg fun hk => Nat.not_lt.mpr hk.2 h

/-! ## The statements -/

/-- Settles O8: fetch changes nothing, and every effect of an instruction keeps the invariant. -/
theorem stepKeepsTheStateLegal : Obligations.StepKeepsTheStateLegal := by
  intro s t hs h
  obtain ⟨i, -, hi⟩ := step_next h
  exact exec_legal hs hi

/-- Settles O10: a frame allows events alone to change rA, and PUT writes no special register but the one it names. -/
theorem eventBitsAreSticky : Obligations.EventBitsAreSticky := by
  intro i s t h hhost hput
  rcases exec_put_or_frame h hhost with ⟨x, z, rfl, hn, rfl⟩ | hf
  · have hx : rA ≠ specialIndex x := fun e => by
      obtain rfl : x = 21 := eq_of_eq_specialIndex hn e
      exact hput 0 z rfl
    intro k
    rw [special_advance, special_putSpecial, if_neg hx]
    exact .inl rfl
  · exact hf.events

/-- Settles O11 by the special registers and the event bits of the instruction's frame. -/
theorem specialRegistersAreWrittenByFewInstructions : Obligations.SpecialRegistersAreWrittenByFewInstructions := by
  intro i s t h hhost hput
  have hf := exec_frame h hhost hput
  exact ⟨hf.specials, hf.events⟩

/-- Settles O12: a frame outside the stores keeps memory, and so does PUT. -/
theorem onlyStoresWriteMemory : Obligations.OnlyStoresWriteMemory := by
  intro i s t h hhost hstore a
  rcases exec_put_or_frame h hhost with ⟨x, z, rfl, -, rfl⟩ | hf
  · rw [advance_memory, (putSpecial_rest ..).1]
  · rw [hf.memory hstore]

/-- Settles O13 by the general registers of the instruction's frame. -/
theorem oneGeneralRegisterIsWritten : Obligations.OneGeneralRegisterIsWritten :=
  fun _ _ _ h hhost hput => (exec_frame h hhost hput).regs

/-- Settles O7: the launch memory is empty, rG holds 255 and rA holds 0. -/
theorem resetIsLegal : Obligations.ResetIsLegal := by
  have hG : special State.reset rG = 255 := by decide
  have hA : special State.reset rA = 0 := by decide
  refine ⟨⟨reset_memory_wf, ?_, ?_, ?_⟩, rfl, rfl, rfl⟩
  · rw [hG]; decide
  · rw [hG]; decide
  · rw [hA]; decide

/-- Settles O14: reading and writing go to the cell that the operand byte names. -/
theorem operandResolution : Obligations.OperandResolution := by
  intro s k v h32
  refine ⟨fun h => ?_, fun h => ?_⟩
  · rw [reg, setReg, cellOf_global h32 h.1]
    exact ⟨rfl, rfl⟩
  · rw [reg, setReg, cellOf_local h]
    exact ⟨rfl, rfl⟩

end Sys2Proof.Machine

namespace Sys2Proof.Machine

/-! ## Memory accesses, fetch and the launch parameters -/

/-! ### Launch parameters -/

/-- CALL_LINKAGE cannot change a launch parameter (spec/70_reset_and_hazards.md R501). -/
@[simp] theorem linkageResult_launch (s t : State) : (linkageResult s t).launch = s.launch := rfl

/-- No effect reaches the launch parameters but a function of OS_TRAP. -/
theorem exec_trap_or_launch {i : Instr} {s t : State} (h : exec i s = .next t) :
    (∃ y, i = .trap 0 y 0 ∧ t = hostResult s (Config.osTrap y s)) ∨ t.launch = s.launch := by
  cases exec_effect h with
  | trap y => exact .inl ⟨y, rfl, rfl⟩
  | call | calli => exact .inr ((setPc_launch ..).trans (linkageResult_launch ..))
  | ret => exact .inr (linkageResult_launch ..)
  | put =>
    obtain ⟨-, hlaunch, -⟩ := putSpecial_rest s _ _
    exact .inr ((advance_launch _).trans hlaunch)
  | framed hf => exact .inr hf.launch

/-- Settles O9: `hostResult` takes only Mapped from a function of OS_TRAP, and no other effect reaches the launch
parameters. -/
theorem launchParametersAreFixed : Obligations.LaunchParametersAreFixed := by
  intro i s t h
  rcases exec_trap_or_launch h with ⟨y, rfl, rfl⟩ | hlaunch
  · obtain ⟨hmisalign, hosTrap, hcallLinkage⟩ := hostResult_launch s (Config.osTrap y s)
    exact ⟨hmisalign, hosTrap, hcallLinkage, fun hop => absurd rfl hop⟩
  · rw [hlaunch]
    exact ⟨rfl, rfl, rfl, fun _ => rfl⟩

/-! ### Bytes as a number -/

/-- The number in n bytes depends on those n bytes alone. -/
theorem Memory.readNat_congr {m k : Memory} {a n : Nat}
    (h : ∀ i < n, Memory.byteAt m (a + i) = Memory.byteAt k (a + i)) :
    Memory.readNat m a n = Memory.readNat k a n := by
  induction n with
  | zero => rfl
  | succ n ih =>
    rw [Memory.readNat, Memory.readNat, h n n.lt_succ_self, ih fun i hi => h i (by omega)]

/-- Each further byte multiplies the weights of the bytes before it by 256. -/
theorem Memory.readNat_eq_sum (m : Memory) (a n : Nat) :
    Memory.readNat m a n = ((List.range n).map fun i => (Memory.byteAt m (a + i)).toNat * 256 ^ (n - 1 - i)).sum := by
  induction n with
  | zero => rfl
  | succ n ih =>
    have weights : ∀ i ∈ List.range n, (Memory.byteAt m (a + i)).toNat * 256 ^ (n - i) =
        (Memory.byteAt m (a + i)).toNat * 256 ^ (n - 1 - i) * 256 := fun i hi => by
      have : n - i = n - 1 - i + 1 := by have := List.mem_range.mp hi; omega
      rw [this, Nat.pow_succ, Nat.mul_assoc]
    simp only [Memory.readNat, ih, List.range_succ, List.map_append, List.sum_append, Nat.add_sub_cancel,
      List.map_congr_left weights, List.sum_map_mul_right]
    simp

/-- A write of n bytes reads back as the low 8n bits of the number written. -/
theorem Memory.readNat_writeNat {m : Memory} {a : Nat} (n v : Nat) (h : Memory.wf m) (ha : a + n ≤ 2 ^ 64) :
    Memory.readNat (Memory.writeNat m a n v) a n = v % 256 ^ n := by
  induction n generalizing v with
  | zero => simp [Memory.readNat, Nat.mod_one]
  | succ n ih =>
    have upper : Memory.readNat (Memory.writeNat m a (n + 1) v) a n = v / 256 % 256 ^ n := by
      rw [← ih (v / 256) (by omega)]
      exact Memory.readNat_congr fun i hi => Memory.byteAt_setByte_ne _ _ (by omega)
    have lowest : (Memory.byteAt (Memory.writeNat m a (n + 1) v) (a + n)).toNat = v % 256 := by
      simpa using Memory.byteAt_writeNat (n + 1) v h ha n.lt_succ_self
    rw [Memory.readNat, upper, lowest, Nat.pow_succ', Nat.mod_mul, Nat.add_comm, Nat.mul_comm]

/-- Settles O16 by the rules of reading and writing n bytes. -/
theorem memoryIsBigEndian : Obligations.MemoryIsBigEndian := by
  intro m a n v
  refine ⟨Memory.readNat_eq_sum m a n, fun hm ha => ⟨Memory.wf_writeNat n v hm ha, ?_, fun b hb =>
    Memory.byteAt_writeNat_outside m n v hb⟩⟩
  rw [Memory.readNat_writeNat n v hm ha, Nat.pow_mul]

/-! ### Faults of data accesses -/

/-- The alignment check gives the address that the access uses. -/
theorem alignedAddress_of_usesAddress {s : State} {A B : Octa} {n : Nat} (h : UsesAddress s A n B) :
    alignedAddress s.launch.misalign A n = .ok B := by
  rcases h with ⟨h, rfl⟩ | ⟨h, hm, hB⟩
  · exact if_pos h
  · have lowered : A - BitVec.ofNat 64 (A.toNat % n) = B := by
      have := Nat.mod_le A.toNat n
      bv_omega
    simp only [alignedAddress, h, hm, lowered, if_false]

/-- The permissions are checked at the address used, which MemoryFault reports. -/
theorem dataAddress_not_permitted {s : State} {kind : AccessKind} {A B : Octa} {n : Nat} (h : UsesAddress s A n B)
    (hp : ¬ Permitted s kind B n) : dataAddress s kind A n = .error (.memoryFault B n kind) := by
  rw [dataAddress, alignedAddress_of_usesAddress h]
  exact if_neg fun hall => hp (allAllowed_iff.mp hall)

theorem loadShort_fault {s : State} {A : Octa} {e : Fault} (x : Byte) (h : dataAddress s .read A 4 = .error e) :
    loadShort s x A = .fault e := by
  simp [loadShort, memRead, h, raise]

theorem storeShort_fault {s : State} {A : Octa} {e : Fault} (x : Byte) (h : dataAddress s .write A 4 = .error e) :
    storeShort s x A = .fault e := by
  unfold storeShort
  split
  · exact store_fault _ _ h
  · exact store_fault (s := drawn s) _ _ h

/-- The instruction ends in whatever fault its data access, of n bytes at A, is turned away with. -/
def StopsAtAccess (i : Instr) (s : State) (kind : AccessKind) (A : Octa) (n : Nat) : Prop :=
  ∀ f : Fault, dataAddress s kind A n = .error f → exec i s = .fault f

/-- Alignment is checked first, at A, then the permissions, at the address used (spec/60_exceptions.md R474). -/
theorem StopsAtAccess.faults {i : Instr} {s : State} {kind : AccessKind} {A : Octa} {n : Nat}
    (h : StopsAtAccess i s kind A n) :
    (A.toNat % n ≠ 0 → s.launch.misalign = .fault → exec i s = .fault (.misalignedAccess A n)) ∧
      ∀ B : Octa, UsesAddress s A n B → ¬ Permitted s kind B n → exec i s = .fault (.memoryFault B n kind) :=
  ⟨fun hA hm => h _ (dataAddress_misaligned hA hm), fun _ hB hp => h _ (dataAddress_not_permitted hB hp)⟩

/-- Both forms of a load or store, register plus register and register plus byte (spec/20_memory.md R62). -/
theorem stopsAtAccess_of_forms {i j : Instr} {s : State} {y z : Byte} {kind : AccessKind} {n : Nat}
    (hi : StopsAtAccess i s kind (addrReg s y z) n) (hj : StopsAtAccess j s kind (addrImm s y z) n) :
    ∀ q ∈ ([(i, reg s y + reg s z), (j, reg s y + z.setWidth 64)] : List (Instr × Octa)),
      StopsAtAccess q.1 s kind q.2 n :=
  List.forall_mem_cons.mpr ⟨hi, List.forall_mem_singleton.mpr hj⟩

/-- Settles O34: every load and store starts with its data access. -/
theorem dataAccessFaults : Obligations.DataAccessFaults := by
  intro s x y z p hp
  suffices h : ∀ q ∈ [(p.1, reg s y + reg s z), (p.2.1, reg s y + z.setWidth 64)],
      StopsAtAccess q.1 s p.2.2.2 q.2 p.2.2.1 from fun q hq => (h q hq).faults
  simp only [List.mem_cons, List.not_mem_nil, or_false] at hp
  rcases hp with rfl | rfl | rfl | rfl | rfl | rfl | rfl | rfl | rfl | rfl | rfl | rfl | rfl | rfl | rfl | rfl | rfl |
    rfl | rfl | rfl | rfl
  -- the integer loads and LDHT, then LDSF
  iterate 9 exact stopsAtAccess_of_forms (fun _ => load_fault _ _) (fun _ => load_fault _ _)
  · exact stopsAtAccess_of_forms (fun _ => loadShort_fault _) (fun _ => loadShort_fault _)
  -- the integer stores, then STSF, then STHT and STCO
  iterate 8 exact stopsAtAccess_of_forms (fun _ => store_fault _ _) (fun _ => store_fault _ _)
  · exact stopsAtAccess_of_forms (fun _ => storeShort_fault _) (fun _ => storeShort_fault _)
  iterate 2 exact stopsAtAccess_of_forms (fun _ => store_fault _ _) (fun _ => store_fault _ _)

/-! ### Fetch -/

theorem fetch_misaligned {s : State} (h : s.pc.toNat % 4 ≠ 0) : fetch s = .error (.misalignedFetch s.pc) :=
  if_pos h

theorem fetch_not_permitted {s : State} (h : s.pc.toNat % 4 = 0) (hp : ¬ Permitted s .fetch s.pc 4) :
    fetch s = .error (.memoryFault s.pc 4 .fetch) := by
  have hall : allAllowed s.launch .fetch s.pc.toNat 4 = false := Bool.eq_false_iff.mpr fun e => hp (allAllowed_iff.mp e)
  simp [fetch, h, hall]

theorem fetch_of_decode {s : State} {i : Instr} {rest : List Byte} (h : s.pc.toNat % 4 = 0)
    (hp : Permitted s .fetch s.pc 4) (hd : decode (fetchBytes s) = .ok (i, rest)) : fetch s = .ok i := by
  simp [fetch, h, allAllowed_iff.mpr hp, hd]

theorem step_of_fetch_ok {s : State} {i : Instr} (h : fetch s = .ok i) : step s = exec i s := by
  rw [step, h]

theorem step_of_fetch_error {s : State} {f : Fault} (h : fetch s = .error f) : step s = .fault f := by
  rw [step, h]
  rfl

/-- Settles O5: the fetch passes both checks, and its decode is the given one. -/
theorem stepRunsTheDecodedInstruction : Obligations.StepRunsTheDecodedInstruction :=
  fun _ _ haligned hp hd => step_of_fetch_ok (fetch_of_decode haligned hp hd)

/-- Settles O6: fetch checks the alignment first, then the permissions. -/
theorem fetchFaults : Obligations.FetchFaults :=
  fun _ => ⟨fun h => step_of_fetch_error (fetch_misaligned h),
    fun h hp => step_of_fetch_error (fetch_not_permitted h hp)⟩

end Sys2Proof.Machine

namespace Sys2Proof.Machine

/-! ## Encoding

`exists_rowOf` says once, for all 256 opcodes, what the opcode map holds there; decoding an encoded instruction and
encoding a decoded word are read off it. -/

/-! ### The bytes of the operands -/

theorem bytes_of_wyde (y z : Byte) : ((y ++ z).extractLsb' 8 8, (y ++ z).extractLsb' 0 8) = (y, z) :=
  Prod.ext (BitVec.extractLsb'_append_eq_left ..) (BitVec.extractLsb'_append_eq_right ..)

theorem bytes_of_long (x y z : Byte) :
    ((x ++ y ++ z).extractLsb' 16 8, (x ++ y ++ z).extractLsb' 8 8, (x ++ y ++ z).extractLsb' 0 8) = (x, y, z) := by
  have upper (k : Nat) : (x ++ y ++ z).extractLsb' (k + 8) 8 = (x ++ y).extractLsb' k 8 :=
    BitVec.extractLsb'_append_eq_of_le (Nat.le_add_left ..)
  rw [upper 8, upper 0, BitVec.extractLsb'_append_eq_left, BitVec.extractLsb'_append_eq_right,
    BitVec.extractLsb'_append_eq_right]

/-! ### The rows of the opcode map -/

/-- The opcode map holds this row at op. Whatever the bytes X, Y, Z are, the row gives an instruction of the opcode op,
which holds these bytes if they are examined (log entry 18). -/
structure RowOf (op : Byte) (row : Row) : Prop where
  at_opcode : opcodeMap[op.toNat]? = some row
  opcode : ∀ x y z, (row x y z).opcode = op
  operands : op ∉ statusN ++ format15 → ∀ x y z, (row x y z).operands = (x, y, z)

/-- Every instruction comes from the row of its opcode. The cases are grouped by the format of the operands: three
bytes, a byte and a wyde, 24 bits, none held. -/
theorem exists_rowOf (i : Instr) :
    ∃ row, RowOf i.opcode row ∧ row i.operands.1 i.operands.2.1 i.operands.2.2 = i := by
  cases i with
  | bn x yz | bnb x yz | bz x yz | bzb x yz | bp x yz | bpb x yz | bod x yz | bodb x yz | bnn x yz | bnnb x yz
  | bnz x yz | bnzb x yz | bnp x yz | bnpb x yz | bev x yz | bevb x yz | pbn x yz | pbnb x yz | pbz x yz | pbzb x yz
  | pbp x yz | pbpb x yz | pbod x yz | pbodb x yz | pbnn x yz | pbnnb x yz | pbnz x yz | pbnzb x yz | pbnp x yz
  | pbnpb x yz | pbev x yz | pbevb x yz | seth x yz | setmh x yz | setml x yz | setl x yz | inch x yz | incmh x yz
  | incml x yz | incl x yz | orh x yz | ormh x yz | orml x yz | orl x yz | andnh x yz | andnmh x yz | andnml x yz
  | andnl x yz | geta x yz | getab x yz =>
    exact ⟨_, ⟨rfl, fun _ _ _ => rfl, fun _ x y z => congrArg (x, ·) (bytes_of_wyde y z)⟩,
      congrArg _ (wyde_of_bytes yz)⟩
  | jmp xyz | jmpb xyz =>
    exact ⟨_, ⟨rfl, fun _ _ _ => rfl, fun _ => bytes_of_long⟩, congrArg _ (long_of_bytes xyz)⟩
  | funord | fcmpe | fune | feqle | cswap | cswapi | ldunc | ldunci | ldvts | ldvtsi | preld | preldi | prego | pregoi
  | stunc | stunci | syncd | syncdi | prest | presti | syncid | syncidi | pushj | pushjb | puti | ret | resume | save
  | unsave | sync | swym | trip =>
    exact ⟨_, ⟨rfl, fun _ _ _ => rfl, fun h => absurd (by decide) h⟩, rfl⟩
  | _ => exact ⟨_, ⟨rfl, fun _ _ _ => rfl, fun _ _ _ _ => rfl⟩, rfl⟩

/-- Every byte is the opcode of some instruction: the map holds 256 rows, each at the opcode of its instructions
(spec/30_encoding.md R112). -/
theorem exists_opcode (op : Byte) : ∃ i : Instr, i.opcode = op := by
  have rows : ∀ op : Byte, opcodeMap[op.toNat]?.map (fun row => (row 0 0 0).opcode) = some op := by decide +kernel
  obtain ⟨row, -, hop⟩ := Option.map_eq_some_iff.mp (rows op)
  exact ⟨row 0 0 0, hop⟩

/-- Every opcode has its row, so every word decodes (spec/30_encoding.md R112, R116). -/
theorem exists_rowOf_opcode (op : Byte) : ∃ row, RowOf op row := by
  obtain ⟨i, rfl⟩ := exists_opcode op
  obtain ⟨row, h, -⟩ := exists_rowOf i
  exact ⟨row, h⟩

theorem RowOf.decode_eq {op : Byte} {row : Row} (h : RowOf op row) (x y z : Byte) (rest : List Byte) :
    decode (op :: x :: y :: z :: rest) = .ok (row x y z, rest) := by
  rw [decode, h.at_opcode]

theorem RowOf.encode_eq {op : Byte} {row : Row} (h : RowOf op row) (hop : op ∉ statusN ++ format15) (x y z : Byte) :
    encode (row x y z) = [op, x, y, z] := by
  rw [encode, h.opcode, h.operands hop]

/-- Settles O1: an instruction is what the row of its opcode makes of its bytes. -/
theorem decodeOfEncode : Obligations.DecodeOfEncode := by
  intro i rest
  obtain ⟨row, hrow, hi⟩ := exists_rowOf i
  exact decode_encode_of_row rest hrow.at_opcode hi

/-- Settles O2 by the row of the opcode. -/
theorem everyWordDecodes : Obligations.EveryWordDecodes := by
  intro op x y z rest
  obtain ⟨row, hrow⟩ := exists_rowOf_opcode op
  exact ⟨row x y z, hrow.decode_eq x y z rest, hrow.opcode x y z, fun hop => hrow.encode_eq hop x y z⟩

/-- Settles O3 by decoding the nine words. -/
theorem decodesSpecWords : Obligations.DecodesSpecWords :=
  rfl

/-! ### Ill-formed instructions -/

/-- The check of the byte Y never lets an instruction pass that is illegal when Y is 0. -/
theorem withZeroY_illegal {y : Byte} {i : Instr} {k : StepResult} (h : y = 0 → k = illegal i) :
    withZeroY y i k = illegal i := by
  unfold withZeroY
  split
  · exact h ‹_›
  · rfl

/-- Settles O4: the meanings of the formats with bytes that must be zero, or with the number of a special register, check
what `WellFormed` checks; it refuses no other instruction. -/
theorem illFormedInstructionsFault : Obligations.IllFormedInstructionsFault := by
  intro i s h
  cases i with
  | trap x y z => exact if_neg fun ⟨hx, hz⟩ => by simp [WellFormed, hx, hz] at h
  | fix | fixu | flot | floti | flotu | flotui | sflot | sfloti | sflotu | sflotui | fsqrt | fint =>
    exact withZeroY_illegal fun hy => absurd hy (of_decide_eq_false h)
  | put x y z =>
    exact withZeroY_illegal fun hy => if_neg fun ⟨hn, _⟩ => by simp_all [WellFormed, putNumberLegal]
  | get x y z => exact withZeroY_illegal fun hy => if_neg fun hz => by simp [WellFormed, hy, hz] at h
  | _ => cases h

/-! ### Status N -/

/-- The opcode alone decides that an instruction is not implemented (spec/30_encoding.md R114). -/
theorem exec_of_opcode_mem_statusN {i : Instr} (s : State) (h : i.opcode ∈ statusN) : exec i s = unimplemented s := by
  cases i with
  | funord | fcmpe | fune | feqle | cswap | cswapi | ldunc | ldunci | ldvts | ldvtsi | preld | preldi | prego | pregoi
  | stunc | stunci | syncd | syncdi | prest | presti | syncid | syncidi | pushj | pushjb | puti | resume | save
  | unsave | sync | trip => rfl
  | _ => simp [Instr.opcode, statusN] at h

/-- Settles O49: the thirty instructions have the opcodes of status N, and a word with such an opcode decodes to one of
them. -/
theorem statusNFaults : Obligations.StatusNFaults := by
  refine ⟨fun s i hi => exec_of_opcode_mem_statusN s ?_, fun s haligned hp hop => ?_⟩
  · revert i
    decide
  · obtain ⟨row, hrow⟩ := exists_rowOf_opcode (Memory.byteAt s.memory s.pc.toNat)
    rw [step_of_fetch_ok (fetch_of_decode haligned hp (hrow.decode_eq ..))]
    exact exec_of_opcode_mem_statusN s (hrow.opcode .. ▸ hop)

end Sys2Proof.Machine

namespace Sys2Proof.Machine

/-! ## Floating point: patterns and results -/

/-! ### Patterns -/

/-- The pattern of a double is read modulo 2^64. -/
theorem unpackDouble_ofNat (n : Nat) : unpackDouble (BitVec.ofNat 64 n) = unpack doubleFormat n := by
  have sign : n % 2 ^ 64 / 2 ^ 63 % 2 = n / 2 ^ 63 % 2 := by omega
  have magnitude : n % 2 ^ 64 % 2 ^ 63 = n % 2 ^ 63 := by omega
  simp only [unpackDouble, unpack, BitVec.toNat_ofNat, show signWeight doubleFormat = 2 ^ 63 from rfl, sign, magnitude]

theorem unpack_packBits {f : FloatFormat} {neg : Bool} {magnitude : Nat} (h : magnitude < signWeight f) :
    unpack f (packBits f neg magnitude) = unpackMagnitude f neg magnitude := by
  have positive : 0 < signWeight f := Nat.zero_lt_of_lt h
  cases neg <;> simp [unpack, packBits, Nat.add_div_left, Nat.div_eq_of_lt h, Nat.mod_eq_of_lt h, positive]

theorem unpackDouble_infinity (neg : Bool) : unpackDouble (infinity neg) = .inf neg := by
  cases neg <;> rfl

theorem signedZero_eq (neg : Bool) : signedZero neg = if neg then 0x8000000000000000 else 0 := by
  cases neg <;> rfl

/-- Bits 62:51 of a quiet NaN are 1, whatever the free value (40_floating_point.md R130, R132). -/
theorem unpackDouble_quietNaNOf (free : Octa) : unpackDouble (quietNaNOf free) = .nan false := by
  have ones : (quietNaNOf free).extractLsb' 51 12 = 0xFFF := by
    apply BitVec.eq_of_getLsbD_eq
    intro k hk
    simp only [quietNaNOf, BitVec.getLsbD_extractLsb', BitVec.getLsbD_or, BitVec.getLsbD_and]
    interval_cases k <;> simp
  have upper : (quietNaNOf free).toNat / 2 ^ 51 % 2 ^ 12 = 0xFFF := by
    simpa [Nat.shiftRight_eq_div_pow] using congrArg BitVec.toNat ones
  have field : (quietNaNOf free).toNat % 2 ^ 63 / 2 ^ 52 = 2047 := by omega
  have fraction : 2 ^ 51 ≤ (quietNaNOf free).toNat % 2 ^ 63 % 2 ^ 52 := by omega
  have nonzero : (quietNaNOf free).toNat % 2 ^ 63 % 2 ^ 52 ≠ 0 := by omega
  simp [unpackDouble, unpack, unpackMagnitude, show signWeight doubleFormat = 2 ^ 63 from rfl,
    show doubleFormat.fracBits = 52 from rfl, show doubleFormat.maxField = 2047 from rfl, -Nat.reducePow,
    field, nonzero, fraction]

/-- The pattern of a number: its significand has at most fracBits + 1 bits, its exponent is that of the smallest
subnormal at least and that of the largest finite number at most. -/
theorem unpack_fin_bounds {f : FloatFormat} {bits m : Nat} {neg : Bool} {e : Int} (hM : 2 ≤ f.maxField)
    (h : unpack f bits = .fin neg m e) :
    m < 2 ^ (f.fracBits + 1) ∧ f.minExp ≤ e ∧ e ≤ f.minExp + f.maxField - 2 := by
  have weight : 0 < 2 ^ f.fracBits := Nat.two_pow_pos _
  have fraction := Nat.mod_lt (bits % signWeight f) weight
  have field : bits % signWeight f / 2 ^ f.fracBits < f.maxField + 1 :=
    Nat.div_lt_of_lt_mul (Nat.mul_comm .. ▸ Nat.mod_lt _ (Nat.mul_pos f.maxField.succ_pos weight))
  rw [pow_succ]
  simp only [unpack, unpackMagnitude] at h
  generalize bits % signWeight f / 2 ^ f.fracBits = k at field h
  split at h
  · split at h <;> cases h
  · split at h <;> cases h <;> omega

/-- A significand m of fracBits + 1 bits or fewer at the smallest exponent has the magnitude bits m, even where m is
2^fracBits, the smallest normal number. -/
theorem unpackMagnitude_subnormal {f : FloatFormat} {neg : Bool} {m : Nat} (hM : 2 ≤ f.maxField)
    (h : m ≤ 2 ^ f.fracBits) : unpackMagnitude f neg m = .fin neg m f.minExp := by
  have field_ne : f.maxField ≠ 0 ∧ f.maxField ≠ 1 := by omega
  rcases h.lt_or_eq with h | rfl
  · simp [unpackMagnitude, Nat.div_eq_of_lt h, Nat.mod_eq_of_lt h, field_ne.1.symm]
  · simp [unpackMagnitude, field_ne.2.symm]

theorem unpackMagnitude_normal {f : FloatFormat} {neg : Bool} {field fraction : Nat} (hf : fraction < 2 ^ f.fracBits)
    (h0 : field ≠ 0) (hM : field ≠ f.maxField) :
    unpackMagnitude f neg (field * 2 ^ f.fracBits + fraction) =
      .fin neg (2 ^ f.fracBits + fraction) (f.minExp + (field - 1)) := by
  have hfield : (field * 2 ^ f.fracBits + fraction) / 2 ^ f.fracBits = field := by
    rw [Nat.mul_comm, Nat.mul_add_div (Nat.two_pow_pos _), Nat.div_eq_of_lt hf, Nat.add_zero]
  have hfraction : (field * 2 ^ f.fracBits + fraction) % 2 ^ f.fracBits = fraction := by
    rw [Nat.mul_comm, Nat.mul_add_mod, Nat.mod_eq_of_lt hf]
  simp [unpackMagnitude, hfield, hfraction, h0, hM]

/-! ### Numbers -/

/-- The magnitude of the number of a pattern. -/
@[simp] theorem abs_rationalOf (neg : Bool) (m : Nat) (e : Int) : |rationalOf neg m e| = m * (2 : Rat) ^ e := by
  have magnitude : (0 : Rat) ≤ m * 2 ^ e := by positivity
  cases neg <;> simp [rationalOf, abs_of_nonneg]

theorem rationalOf_eq_zero {neg : Bool} {m : Nat} {e : Int} : rationalOf neg m e = 0 ↔ m = 0 := by
  rw [← abs_eq_zero, abs_rationalOf, mul_eq_zero, or_iff_left (by positivity), Nat.cast_eq_zero]

/-- The factor that a sign stands for. -/
def signOf (neg : Bool) : Int :=
  if neg then -1 else 1

theorem signOf_mul_self (neg : Bool) : signOf neg * signOf neg = 1 := by
  cases neg <;> rfl

theorem signOf_xor (a b : Bool) : signOf (xor a b) = signOf a * signOf b := by
  cases a <;> cases b <;> rfl

theorem rationalOf_eq_signOf_mul (neg : Bool) (m : Nat) (e : Int) :
    rationalOf neg m e = signOf neg * (m * (2 : Rat) ^ e) := by
  cases neg <;> simp [rationalOf, signOf]

/-- The magnitude decides about numbers of one sign. -/
theorem rationalOf_congr {neg : Bool} {m k : Nat} {e d : Int} (h : (m : Rat) * 2 ^ e = k * 2 ^ d) :
    rationalOf neg m e = rationalOf neg k d := by
  rw [rationalOf_eq_signOf_mul, rationalOf_eq_signOf_mul, h]

/-- Counted in a smaller unit, a significand stays an integer. -/
theorem natCast_mul_zpow (m : Nat) {e d : Int} (h : d ≤ e) :
    ((m * 2 ^ (e - d).toNat : Nat) : Rat) * 2 ^ d = m * 2 ^ e := by
  have split : (2 : Rat) ^ e = 2 ^ (e - d).toNat * 2 ^ d := by
    rw [← zpow_natCast, ← zpow_add₀ (by norm_num)]
    congr 1
    omega
  rw [split]
  push_cast
  ring

/-- `scaled` counts a number exactly. -/
theorem scaled_mul_zpow (neg : Bool) (m : Nat) {exp e : Int} (h : e ≤ exp) :
    (scaled neg m exp e : Rat) * 2 ^ e = rationalOf neg m exp := by
  rw [rationalOf_eq_signOf_mul, ← natCast_mul_zpow m h]
  cases neg <;> simp [scaled, signOf]

/-! ### Results -/

theorem delivers_value {i : Instr} {s : State} {x : Byte} {r : FloatResult} {v : Octa} {P : Octa → Prop}
    {es : List Event} (hi : exec i s = deliver s x r) (hr : r = .value v es) (hP : P v) : Delivers i s x P es :=
  delivers_of_resultWith (hi.trans (congrArg _ hr)) hP rfl rfl rfl rfl rfl rfl (by decide) (fun _ _ => rfl)
    (fun _ _ => trivial)

theorem delivers_quietNaN {i : Instr} {s : State} {x : Byte} {r : FloatResult} {es : List Event}
    (hi : exec i s = deliver s x r) (hr : r = .quietNaN es) :
    Delivers i s x (fun v => unpackDouble v = .nan false) es :=
  delivers_of_resultWith (u := drawn s) (hi.trans (congrArg _ hr)) (unpackDouble_quietNaNOf _) rfl rfl rfl rfl rfl rfl
    (by decide) (fun _ _ => rfl) (fun _ _ => trivial)

theorem delivers_unspecified {i : Instr} {s : State} {x : Byte} {r : FloatResult} {es : List Event}
    (hi : exec i s = deliver s x r) (hr : r = .unspecified es) : Delivers i s x (fun _ => True) es :=
  delivers_of_resultWith (u := drawn s) (hi.trans (congrArg _ hr)) trivial rfl rfl rfl rfl rfl rfl
    (by decide) (fun _ _ => rfl) (fun _ _ => trivial)

/-- A number that fp_round rounds goes to x[X] with the events of its rounding. -/
theorem delivers_rounded {i : Instr} {s : State} {x : Byte} {r : FloatResult} {rm : Rounding} {u : Bool} {w : Exact}
    (hi : exec i s = deliver s x r) (hr : r = rounded rm u w) :
    Delivers i s x (fun v => v = BitVec.ofNat 64 (fpRound doubleFormat rm u w).1) (fpRound doubleFormat rm u w).2 :=
  delivers_value hi hr rfl

theorem isNaN_iff {a : Fp} : a.isNaN = true ↔ ∃ g, a = .nan g := by
  cases a <;> simp [Fp.isNaN]

theorem signallingEvents_eq (y z : Fp) :
    signallingEvents y z = if y.isSignalling = true ∨ z.isSignalling = true then [.I] else [] := by
  simp [signallingEvents]

/-- The rule of 40_floating_point.md R132 for a NaN operand of an operation on two operands. -/
structure PropagatesNaN (op : Fp → Fp → FloatResult) : Prop where
  left : ∀ g z, op (.nan g) z = .quietNaN (signallingEvents (.nan g) z)
  right : ∀ y g, op y (.nan g) = .quietNaN (signallingEvents y (.nan g))

theorem PropagatesNaN.delivers {op : Fp → Fp → FloatResult} (hop : PropagatesNaN op) {i : Instr} {s : State} {x : Byte}
    {a b : Fp} (hi : exec i s = deliver s x (op a b)) (h : a.isNaN = true ∨ b.isNaN = true) :
    Delivers i s x (fun v => unpackDouble v = .nan false)
      (if a.isSignalling = true ∨ b.isSignalling = true then [.I] else []) := by
  have result : op a b = .quietNaN (signallingEvents a b) := by
    rcases h with h | h
    · obtain ⟨g, rfl⟩ := isNaN_iff.mp h
      exact hop.left g b
    · obtain ⟨g, rfl⟩ := isNaN_iff.mp h
      exact hop.right a g
  exact signallingEvents_eq a b ▸ delivers_quietNaN hi result

theorem floatAdd_propagatesNaN (rm : Rounding) (u : Bool) : PropagatesNaN (floatAdd rm u) where
  left _ _ := rfl
  right y _ := by cases y <;> rfl

theorem floatMul_propagatesNaN (rm : Rounding) (u : Bool) : PropagatesNaN (floatMul rm u) where
  left _ _ := rfl
  right y _ := by cases y <;> rfl

theorem floatDiv_propagatesNaN (rm : Rounding) (u : Bool) : PropagatesNaN (floatDiv rm u) where
  left _ _ := rfl
  right y _ := by cases y <;> rfl

theorem floatRemainder_propagatesNaN (v : Octa) : PropagatesNaN (floatRemainder v) where
  left _ _ := rfl
  right y _ := by cases y <;> rfl

end Sys2Proof.Machine

namespace Sys2Proof.Machine

/-! ## Floating point: rounding to an integer (40_floating_point.md R131)

`LiesAs` is what the rounding modes can tell of a number; `roundShift` reads it off a significand, also off one whose
last bit stands for bits that were cut off. -/

theorem RoundsTo.bounds {rm : Rounding} {neg : Bool} {x : Rat} {n : Nat} (h : RoundsTo rm neg x n) :
    (n : Rat) < x + 1 ∧ x < n + 1 := by
  cases rm with
  | near =>
    obtain ⟨hlo, hhi⟩ := abs_le.mp h.1
    constructor <;> linarith
  | off => exact ⟨by linarith [h.1], h.2⟩
  | up | down =>
    cases neg <;> obtain ⟨h1, h2⟩ := h <;> constructor <;> linarith

/-- Rounding does not cross an integer from above. -/
theorem RoundsTo.natCast_le {rm : Rounding} {neg : Bool} {x : Rat} {n c : Nat} (h : RoundsTo rm neg x n)
    (hc : (c : Rat) ≤ x) : c ≤ n :=
  Nat.lt_succ_iff.mp (by exact_mod_cast hc.trans_lt h.bounds.2)

/-- Rounding does not cross an integer from below. -/
theorem RoundsTo.le_natCast {rm : Rounding} {neg : Bool} {x : Rat} {n c : Nat} (h : RoundsTo rm neg x n)
    (hc : x ≤ c) : n ≤ c :=
  Nat.lt_succ_iff.mp (by exact_mod_cast h.bounds.1.trans_le (add_le_add_left hc 1))

/-- An integer is rounded to itself. -/
theorem RoundsTo.eq_of_natCast {rm : Rounding} {neg : Bool} {n c : Nat} (h : RoundsTo rm neg c n) : n = c :=
  le_antisymm (h.le_natCast le_rfl) (h.natCast_le le_rfl)

theorem roundsTo_natCast (rm : Rounding) (neg : Bool) (n : Nat) : RoundsTo rm neg n n := by
  cases rm <;> cases neg <;> simp [RoundsTo]

/-- The number x lies above the integer q as r / d lies above 0, as far as the rounding modes can tell: both are 0 or
neither is, and both lie on the same side of 1/2. -/
structure LiesAs (x : Rat) (q r d : Nat) : Prop where
  floor_le : (q : Rat) ≤ x
  lt_succ : x < q + 1
  integer : x = q ↔ r = 0
  half : x = q + 1 / 2 ↔ 2 * r = d
  above_half : q + 1 / 2 < x ↔ d < 2 * r

theorem LiesAs.lt_half {x : Rat} {q r d : Nat} (h : LiesAs x q r d) (h1 : ¬ d < 2 * r) (h2 : 2 * r ≠ d) :
    x < q + 1 / 2 :=
  lt_of_le_of_ne (not_lt.mp (mt h.above_half.mp h1)) (mt h.half.mp h2)

/-- The next integer above, where x is none. -/
theorem LiesAs.ceil {x : Rat} {q r d : Nat} (h : LiesAs x q r d) :
    x ≤ (if r = 0 then q else q + 1 : Nat) ∧ ((if r = 0 then q else q + 1 : Nat) : Rat) < x + 1 := by
  split
  · obtain rfl := h.integer.mpr ‹_›
    exact ⟨le_rfl, by linarith⟩
  · have above : (q : Rat) < x := lt_of_le_of_ne h.floor_le (Ne.symm (mt h.integer.mp ‹_›))
    push_cast
    exact ⟨h.lt_succ.le, by linarith⟩

/-- The nearest integer, the even one on a tie. -/
theorem LiesAs.nearest {x : Rat} {q r d : Nat} (h : LiesAs x q r d) :
    RoundsTo .near false x (if d < 2 * r ∨ (2 * r = d ∧ q % 2 = 1) then q + 1 else q) := by
  have hlo := h.floor_le
  have hhi := h.lt_succ
  by_cases above : d < 2 * r
  · have := h.above_half.mpr above
    have distance : |x - (q + 1 : Nat)| < 1 / 2 := by push_cast; rw [abs_lt]; constructor <;> linarith
    rw [if_pos (.inl above)]
    exact ⟨distance.le, fun e => absurd e distance.ne⟩
  · by_cases tie : 2 * r = d
    · have hx := h.half.mpr tie
      by_cases odd : q % 2 = 1
      · rw [if_pos (.inr ⟨tie, odd⟩), hx]
        exact ⟨by push_cast; norm_num [abs_le], fun _ => by omega⟩
      · rw [if_neg (by omega), hx]
        exact ⟨by norm_num [abs_le], fun _ => by omega⟩
    · have := h.lt_half above tie
      have distance : |x - q| < 1 / 2 := by rw [abs_lt]; constructor <;> linarith
      rw [if_neg (by omega)]
      exact ⟨distance.le, fun e => absurd e distance.ne⟩

/-- What decides between the two integers beside a number decides `roundShift`. -/
theorem LiesAs.roundsTo {x : Rat} {mant k : Nat} (h : LiesAs x (mant / 2 ^ k) (mant % 2 ^ k) (2 ^ k)) (rm : Rounding)
    (neg : Bool) : RoundsTo rm neg x (roundShift rm neg mant k).1 := by
  cases rm with
  | near => simpa [roundShift, RoundsTo] using h.nearest
  | off => exact ⟨h.floor_le, h.lt_succ⟩
  | up =>
    cases neg with
    | true => simpa [roundShift, RoundsTo] using And.intro h.floor_le h.lt_succ
    | false => simpa [roundShift, RoundsTo] using h.ceil
  | down =>
    cases neg with
    | true => simpa [roundShift, RoundsTo] using h.ceil
    | false => simpa [roundShift, RoundsTo] using And.intro h.floor_le h.lt_succ

/-- `roundShift` says that it changed the number exactly where it did. -/
theorem LiesAs.changed {x : Rat} {mant k : Nat} (h : LiesAs x (mant / 2 ^ k) (mant % 2 ^ k) (2 ^ k)) (rm : Rounding)
    (neg : Bool) : (roundShift rm neg mant k).2 = true ↔ ((roundShift rm neg mant k).1 : Rat) ≠ x := by
  have flag : (roundShift rm neg mant k).2 = true ↔ mant % 2 ^ k ≠ 0 := decide_eq_true_iff
  have hround := h.roundsTo rm neg
  rw [flag, Ne, Ne, not_iff_not, ← h.integer]
  constructor
  · intro hx
    rw [hx] at hround
    rw [hround.eq_of_natCast, hx]
  · intro hx
    generalize (roundShift rm neg mant k).1 = n at hx
    subst hx
    have hlo : mant / 2 ^ k ≤ n := by exact_mod_cast h.floor_le
    have hhi : n < mant / 2 ^ k + 1 := by exact_mod_cast h.lt_succ
    rw [le_antisymm (Nat.lt_succ_iff.mp hhi) hlo]

/-- A quotient of integers lies above its integer part as the remainder says. -/
theorem liesAs_div (m : Nat) {d : Nat} (hd : 0 < d) : LiesAs ((m : Rat) / d) (m / d) (m % d) d := by
  have hd' : (0 : Rat) < d := by exact_mod_cast hd
  have hx : (m : Rat) / d = (m / d : Nat) + (m % d : Nat) / d := by
    rw [div_eq_iff hd'.ne', add_mul, div_mul_cancel₀ _ hd'.ne']
    exact_mod_cast (Nat.div_add_mod' m d).symm
  have hr : ((m % d : Nat) : Rat) < d := by exact_mod_cast Nat.mod_lt m hd
  rw [hx]
  generalize m / d = q
  generalize m % d = r at *
  refine ⟨le_add_of_nonneg_right (by positivity), ?_, ?_, ?_, ?_⟩
  · rw [add_lt_add_iff_left, div_lt_one hd']
    exact hr
  · simp [hd.ne']
  · rw [add_right_inj, div_eq_div_iff hd'.ne' two_ne_zero, one_mul, mul_comm]
    exact_mod_cast Iff.rfl
  · rw [add_lt_add_iff_left, div_lt_div_iff₀ two_pos hd', one_mul, mul_comm (r : Rat)]
    exact_mod_cast Iff.rfl

/-- An odd number of quarters of a unit or less stands for every number between its even neighbours (log entry 22). -/
theorem liesAs_of_odd {y : Rat} {mant c : Nat} (hc : 0 < c) (hodd : mant % 2 = 1) (hlo : (mant : Rat) - 1 < y)
    (hhi : y < mant + 1) : LiesAs (y / (4 * c : Nat)) (mant / (4 * c)) (mant % (4 * c)) (4 * c) := by
  have hc' : (0 : Rat) < (4 * c : Nat) := by exact_mod_cast Nat.mul_pos (by decide) hc
  have hm : mant = mant / (4 * c) * (4 * c) + mant % (4 * c) := (Nat.div_add_mod' ..).symm
  have hr : mant % (4 * c) < 4 * c := Nat.mod_lt _ (by omega)
  have hrodd : mant % (4 * c) % 2 = 1 := by rw [Nat.mod_mod_of_dvd _ ⟨2 * c, by ring⟩, hodd]
  generalize mant / (4 * c) = q at *
  generalize mant % (4 * c) = r at *
  have hmQ : (mant : Rat) = q * (4 * c : Nat) + r := by exact_mod_cast hm
  rw [hmQ] at hlo hhi
  have h1 : (1 : Rat) ≤ r := by exact_mod_cast (by omega : 1 ≤ r)
  have h2 : (r : Rat) + 1 ≤ (4 * c : Nat) := by exact_mod_cast hr
  have below : ¬ 4 * c < 2 * r → (r : Rat) + 1 ≤ (2 * c : Nat) := fun h => by exact_mod_cast (by omega : r + 1 ≤ 2 * c)
  have above : 4 * c < 2 * r → ((2 * c : Nat) : Rat) + 1 ≤ r := fun h => by exact_mod_cast (by omega : 2 * c + 1 ≤ r)
  have hhalf : ((q : Rat) + 1 / 2) * (4 * c : Nat) = q * (4 * c : Nat) + (2 * c : Nat) := by push_cast; ring
  refine ⟨?_, ?_, ?_, ?_, ?_⟩
  · rw [le_div_iff₀ hc']; linarith
  · rw [div_lt_iff₀ hc']; linarith
  · rw [div_eq_iff hc'.ne']
    exact iff_of_false (by linarith) (by omega)
  · rw [div_eq_iff hc'.ne', hhalf]
    refine iff_of_false (fun e => ?_) (by omega)
    by_cases h : 4 * c < 2 * r
    · linarith [above h]
    · linarith [below h]
  · rw [lt_div_iff₀ hc', hhalf]
    by_cases h : 4 * c < 2 * r
    · exact iff_of_true (by linarith [above h]) h
    · exact iff_of_false (by linarith [below h]) h

/-- What `roundTo` needs to know of the number q that v stands for when it rounds at 2^t: v is q, or its last bit stands
for the bits of q that are cut off, two places below 2^t at least. -/
def Exact.ReadsAs (v : Exact) (q : Rat) (t : Int) : Prop :=
  v.magnitude = q ∨ (v.mant % 2 = 1 ∧ v.exp + 2 ≤ t ∧ ((v.mant : Rat) - 1) * 2 ^ v.exp < q ∧
    q < ((v.mant : Rat) + 1) * 2 ^ v.exp)

theorem zpow_two_pos (e : Int) : (0 : Rat) < 2 ^ e := by positivity

/-- Below the place where it is cut off, q lies as the significand of v says. -/
theorem Exact.ReadsAs.liesAs {v : Exact} {q : Rat} {t : Int} (h : v.ReadsAs q t) (ht : v.exp ≤ t) :
    LiesAs (q / 2 ^ t) (v.mant / 2 ^ (t - v.exp).toNat) (v.mant % 2 ^ (t - v.exp).toNat) (2 ^ (t - v.exp).toNat) := by
  have hpow : (2 : Rat) ^ t = 2 ^ v.exp * (2 ^ (t - v.exp).toNat : Nat) := by
    simpa [mul_comm] using (natCast_mul_zpow 1 ht).symm
  rw [hpow, ← div_div]
  rcases h with rfl | ⟨hodd, hexp, hlo, hhi⟩
  · rw [Exact.magnitude, mul_div_cancel_right₀ _ (zpow_two_pos _).ne']
    exact liesAs_div _ (Nat.two_pow_pos _)
  · obtain ⟨j, hj⟩ : ∃ j, (t - v.exp).toNat = 2 + j := ⟨(t - v.exp).toNat - 2, by omega⟩
    rw [hj, pow_add]
    exact liesAs_of_odd (Nat.two_pow_pos _) hodd ((lt_div_iff₀ (zpow_two_pos _)).mpr hlo)
      ((div_lt_iff₀ (zpow_two_pos _)).mpr hhi)

/-- `roundTo` rounds the number that v stands for, and says exactly whether that changed it. -/
theorem Exact.ReadsAs.rounds {v : Exact} {q : Rat} {t : Int} (h : v.ReadsAs q t) (rm : Rounding) :
    RoundsTo rm v.neg (q / 2 ^ t) (roundTo rm v t).1 ∧
      ((roundTo rm v t).2 = true ↔ ((roundTo rm v t).1 : Rat) * 2 ^ t ≠ q) := by
  have ht := zpow_two_pos t
  unfold roundTo
  split
  · rename_i hexp
    have hq : ((v.mant * 2 ^ (v.exp - t).toNat : Nat) : Rat) * 2 ^ t = q := by
      rw [natCast_mul_zpow _ hexp]
      exact h.resolve_right fun h => by omega
    rw [← hq, mul_div_cancel_right₀ _ ht.ne']
    exact ⟨roundsTo_natCast .., by simp⟩
  · have hlies := h.liesAs (by omega)
    rw [Ne, ← eq_div_iff ht.ne']
    exact ⟨hlies.roundsTo rm v.neg, hlies.changed rm v.neg⟩

end Sys2Proof.Machine

namespace Sys2Proof.Machine

/-! ## Floating point: fp_round

The magnitude bits of a number grow with it (40_floating_point.md R130), so the branches of `fpRound`, which compare
bits, are the clauses of R132, which compare numbers. -/

/-! ### The magnitude bits of a number -/

/-- The magnitude bits of m * 2^t, which `fpRound` compares with its bounds. -/
def magnitudeBits (f : FloatFormat) (m : Nat) (t : Int) : Int :=
  (t - f.minExp) * 2 ^ f.fracBits + m

/-- The place of the lowest bit of a significand for v that has fracBits + 1 bits. -/
def leadingPlace (f : FloatFormat) (v : Exact) : Int :=
  v.exp + v.mant.log2 - f.fracBits

/-- The largest finite number. -/
def maxFinite (f : FloatFormat) : Rat :=
  ((2 : Rat) ^ (f.fracBits + 1) - 1) * 2 ^ (f.minExp + f.maxField - 2)

/-- m is a significand of exactly fracBits + 1 bits. -/
def IsNormal (f : FloatFormat) (m : Nat) : Prop :=
  2 ^ f.fracBits ≤ m ∧ m < 2 ^ (f.fracBits + 1)

theorem fpRound_overflow {f : FloatFormat} {v : Exact} {rm : Rounding} (u : Bool)
    (h : infinityBits f ≤ magnitudeBits f (roundTo rm v (leadingPlace f v)).1 (leadingPlace f v)) :
    fpRound f rm u v = (packBits f v.neg (if overflowsToInfinity rm v.neg then infinityBits f else infinityBits f - 1),
      [.O, .X]) :=
  if_pos h

theorem fpRound_normal {f : FloatFormat} {v : Exact} {rm : Rounding} (u : Bool)
    (h : ¬ infinityBits f ≤ magnitudeBits f (roundTo rm v (leadingPlace f v)).1 (leadingPlace f v))
    (h' : 2 ^ f.fracBits ≤ magnitudeBits f (roundTo rm v (leadingPlace f v)).1 (leadingPlace f v)) :
    fpRound f rm u v =
      (packBits f v.neg (magnitudeBits f (roundTo rm v (leadingPlace f v)).1 (leadingPlace f v)).toNat,
        if (roundTo rm v (leadingPlace f v)).2 then [.X] else []) :=
  (if_neg h).trans (if_pos h')

theorem fpRound_tiny {f : FloatFormat} {v : Exact} {rm : Rounding} (u : Bool)
    (h : ¬ infinityBits f ≤ magnitudeBits f (roundTo rm v (leadingPlace f v)).1 (leadingPlace f v))
    (h' : ¬ 2 ^ f.fracBits ≤ magnitudeBits f (roundTo rm v (leadingPlace f v)).1 (leadingPlace f v)) :
    fpRound f rm u v = (packBits f v.neg (roundTo rm v f.minExp).1,
      if (roundTo rm v f.minExp).2 then [.U, .X] else if u then [.U] else []) :=
  (if_neg h).trans (if_neg h')

theorem overflowsToInfinity_iff {rm : Rounding} {neg : Bool} : overflowsToInfinity rm neg = true ↔
    rm = .near ∨ (rm = .up ∧ neg = false) ∨ (rm = .down ∧ neg = true) := by
  cases rm <;> simp [overflowsToInfinity]

theorem le_mul_add_iff {a c p r : Int} (h0 : 0 ≤ r) (h1 : r < p) : a * p ≤ c * p + r ↔ a ≤ c := by
  have hp : 0 < p := by omega
  rw [← Int.le_ediv_iff_mul_le hp, Int.add_comm, Int.add_mul_ediv_right _ _ hp.ne', Int.ediv_eq_zero_of_lt h0 h1,
    Int.zero_add]

/-- The bits of a normal significand: the exponent field counts from 1, then the fraction. -/
theorem IsNormal.magnitudeBits_eq {f : FloatFormat} {m : Nat} (h : IsNormal f m) (j : Int) :
    magnitudeBits f m j = (j - f.minExp + 1) * 2 ^ f.fracBits + (m - 2 ^ f.fracBits : Nat) := by
  rw [magnitudeBits, Nat.cast_sub h.1]
  push_cast
  ring

/-- The bits grow with the exponent: they reach those of an exponent field where the exponent does. -/
theorem IsNormal.le_magnitudeBits_iff {f : FloatFormat} {m : Nat} (h : IsNormal f m) (j field : Int) :
    field * 2 ^ f.fracBits ≤ magnitudeBits f m j ↔ f.minExp + field - 1 ≤ j := by
  obtain ⟨hlo, hhi⟩ := h
  rw [pow_succ] at hhi
  rw [IsNormal.magnitudeBits_eq ⟨hlo, hhi⟩, le_mul_add_iff (by omega) (by exact_mod_cast (by omega))]
  omega

theorem IsNormal.zpow_le {f : FloatFormat} {m : Nat} (h : IsNormal f m) (j : Int) :
    (2 : Rat) ^ (j + f.fracBits) ≤ m * 2 ^ j := by
  rw [zpow_add₀ two_ne_zero, mul_comm, zpow_natCast]
  exact mul_le_mul_of_nonneg_right (by exact_mod_cast h.1) (zpow_two_pos j).le

theorem IsNormal.lt_zpow {f : FloatFormat} {m : Nat} (h : IsNormal f m) (j : Int) :
    (m : Rat) * 2 ^ j < 2 ^ (j + f.fracBits + 1) := by
  rw [add_assoc, zpow_add₀ two_ne_zero, mul_comm]
  exact mul_lt_mul_of_pos_left (by exact_mod_cast h.2) (zpow_two_pos j)

theorem zpow_two_le {a b : Int} (h : a ≤ b) : (2 : Rat) ^ a ≤ 2 ^ b :=
  zpow_le_zpow_right₀ one_le_two h

/-- A power of two is at most a number exactly where its exponent is at most that of the number's leading bit. -/
theorem IsNormal.zpow_le_iff {f : FloatFormat} {m : Nat} (h : IsNormal f m) (j e : Int) :
    (2 : Rat) ^ (e + f.fracBits) ≤ m * 2 ^ j ↔ e ≤ j := by
  refine ⟨fun hle => ?_, fun hle => (zpow_two_le (by omega)).trans (h.zpow_le j)⟩
  have := (zpow_lt_zpow_iff_right₀ one_lt_two).mp (hle.trans_lt (h.lt_zpow j))
  omega

theorem le_maxFinite {f : FloatFormat} {m : Nat} {j : Int} (hm : m < 2 ^ (f.fracBits + 1))
    (hj : j ≤ f.minExp + f.maxField - 2) : (m : Rat) * 2 ^ j ≤ maxFinite f := by
  have hm' : (m : Rat) ≤ 2 ^ (f.fracBits + 1) - 1 := by
    rw [le_sub_iff_add_le]
    exact_mod_cast hm
  exact mul_le_mul hm' (zpow_two_le hj) (zpow_two_pos j).le (m.cast_nonneg.trans hm')

theorem IsNormal.maxFinite_lt_iff {f : FloatFormat} {m : Nat} (h : IsNormal f m) (j : Int) :
    maxFinite f < m * 2 ^ j ↔ f.minExp + f.maxField - 1 ≤ j := by
  constructor
  · contrapose!
    intro hj
    exact le_maxFinite h.2 (by omega)
  · intro hj
    calc maxFinite f < 2 ^ (f.fracBits + 1) * 2 ^ (f.minExp + f.maxField - 2) :=
          mul_lt_mul_of_pos_right (by linarith) (zpow_two_pos _)
      _ = 2 ^ (f.minExp + f.maxField - 1 + f.fracBits) := by
          rw [← zpow_natCast, ← zpow_add₀ two_ne_zero]
          congr 1
          push_cast
          ring
      _ ≤ m * 2 ^ j := (h.zpow_le_iff j _).mpr hj

/-- Rounding up to a power of two carries into the exponent field: the significand 2^(fracBits + 1) has the bits of the
normal significand of the same number. -/
theorem exists_isNormal {f : FloatFormat} {n : Nat} (t : Int) (hlo : 2 ^ f.fracBits ≤ n)
    (hhi : n ≤ 2 ^ (f.fracBits + 1)) :
    ∃ m j, IsNormal f m ∧ t ≤ j ∧ (m : Rat) * 2 ^ j = n * 2 ^ t ∧ magnitudeBits f m j = magnitudeBits f n t := by
  rcases hhi.lt_or_eq with hhi | rfl
  · exact ⟨n, t, ⟨hlo, hhi⟩, le_rfl, rfl, rfl⟩
  · refine ⟨2 ^ f.fracBits, t + 1, ⟨le_rfl, Nat.pow_lt_pow_succ one_lt_two⟩, Int.le_add_one le_rfl, ?_, ?_⟩
    · rw [zpow_add_one₀ two_ne_zero]
      push_cast
      ring
    · simp only [magnitudeBits]
      push_cast
      ring

theorem IsNormal.unpack {f : FloatFormat} {m : Nat} {j : Int} (h : IsNormal f m) (neg : Bool) (hlo : f.minExp ≤ j)
    (hhi : j < f.minExp + f.maxField - 1) :
    unpack f (packBits f neg (magnitudeBits f m j).toNat) = .fin neg m j := by
  obtain ⟨field, hfield⟩ := Int.eq_ofNat_of_zero_le (by omega : 0 ≤ j - f.minExp + 1)
  obtain ⟨fraction, rfl⟩ := Nat.exists_eq_add_of_le h.1
  have hfraction : fraction < 2 ^ f.fracBits := by have := h.2; rw [pow_succ] at this; omega
  have hbits : (magnitudeBits f (2 ^ f.fracBits + fraction) j).toNat = field * 2 ^ f.fracBits + fraction := by
    rw [h.magnitudeBits_eq, hfield, Nat.add_sub_cancel_left]
    exact_mod_cast Int.toNat_natCast (field * 2 ^ f.fracBits + fraction)
  have hlt : field * 2 ^ f.fracBits + fraction < signWeight f := by
    have : (field + 1) * 2 ^ f.fracBits ≤ signWeight f := Nat.mul_le_mul_right _ (by omega)
    rw [Nat.add_mul] at this
    omega
  rw [hbits, unpack_packBits hlt, unpackMagnitude_normal hfraction (by omega) (by omega)]
  congr 1
  omega

theorem unpack_subnormal {f : FloatFormat} {m : Nat} (neg : Bool) (hM : 2 ≤ f.maxField) (h : m ≤ 2 ^ f.fracBits) :
    unpack f (packBits f neg m) = .fin neg m f.minExp := by
  have hlt : m < signWeight f :=
    calc m ≤ 1 * 2 ^ f.fracBits := by rwa [one_mul]
      _ < signWeight f := Nat.mul_lt_mul_of_pos_right (by omega) (Nat.two_pow_pos _)
  rw [unpack_packBits hlt, unpackMagnitude_subnormal hM h]

/-! ### fp_round -/

/-- A number with a sticky bit lies, as its significand does, between two powers of two. -/
theorem Exact.standsFor.bounds {v : Exact} {q : Rat} (h : v.standsFor q) :
    (2 : Rat) ^ (v.exp + v.mant.log2) ≤ q ∧ q < 2 ^ (v.exp + v.mant.log2 + 1) := by
  obtain ⟨hne, h⟩ := h
  have hexp := zpow_two_pos v.exp
  have hlo : 2 ^ v.mant.log2 ≤ v.mant := Nat.log2_self_le hne
  have hhi : v.mant < 2 ^ (v.mant.log2 + 1) := Nat.lt_log2_self
  rw [add_assoc, zpow_add₀ two_ne_zero, zpow_add₀ two_ne_zero, mul_comm _ (2 ^ (v.mant.log2 : Int)),
    mul_comm _ (2 ^ ((v.mant.log2 : Int) + 1))]
  generalize v.mant.log2 = l at *
  have hlo' : (2 : Rat) ^ (l : Int) ≤ v.mant := by exact_mod_cast hlo
  have hhi' : (v.mant : Rat) + 1 ≤ 2 ^ ((l : Int) + 1) := by exact_mod_cast hhi
  rcases h with rfl | ⟨hodd, hlarge, hqlo, hqhi⟩
  · exact ⟨mul_le_mul_of_nonneg_right hlo' hexp.le, mul_lt_mul_of_pos_right (by linarith) hexp⟩
  · have hl : l ≠ 0 := by rintro rfl; omega
    have heven : 2 ^ l ≠ v.mant := fun e => by
      rw [← e, ← Nat.succ_pred_eq_of_ne_zero hl, pow_succ] at hodd
      omega
    have hlo'' : (2 : Rat) ^ (l : Int) ≤ v.mant - 1 := by
      rw [le_sub_iff_add_le]
      exact_mod_cast lt_of_le_of_ne hlo heven
    exact ⟨(mul_le_mul_of_nonneg_right hlo'' hexp.le).trans hqlo.le,
      hqhi.trans_le (mul_le_mul_of_nonneg_right hhi' hexp.le)⟩

/-- A sticky bit lies seven places and more below the leading bits of a significand of at most 53 bits. -/
theorem Exact.standsFor.readsAs {f : FloatFormat} {v : Exact} {q : Rat} {t : Int} (h : v.standsFor q)
    (hF : f.fracBits ≤ 52) (ht : leadingPlace f v ≤ t) : v.ReadsAs q t := by
  rcases h.2 with h2 | ⟨hodd, hlarge, hlo, hhi⟩
  · exact .inl h2
  · have hlog : 59 ≤ v.mant.log2 := (Nat.le_log2 h.1).mpr hlarge
    have hexp : v.exp + 2 ≤ t := by unfold leadingPlace at ht; omega
    exact .inr ⟨hodd, hexp, hlo, hhi⟩

/-- The rounding with unbounded exponent gives fracBits + 1 bits or the next power of two. -/
theorem Exact.standsFor.rounded_bounds {f : FloatFormat} {v : Exact} {q : Rat} (h : v.standsFor q) {rm : Rounding}
    {n : Nat} (hn : RoundsTo rm v.neg (q / 2 ^ leadingPlace f v) n) :
    2 ^ f.fracBits ≤ n ∧ n ≤ 2 ^ (f.fracBits + 1) := by
  obtain ⟨hlo, hhi⟩ := h.bounds
  have hpow := zpow_two_pos (leadingPlace f v)
  constructor
  · refine hn.natCast_le ((le_div_iff₀ hpow).mpr (le_of_eq_of_le ?_ hlo))
    push_cast
    rw [← zpow_natCast, ← zpow_add₀ two_ne_zero, leadingPlace]
    congr 1
    ring
  · refine hn.le_natCast ((div_le_iff₀ hpow).mpr (hhi.le.trans_eq ?_))
    push_cast
    rw [← zpow_natCast, ← zpow_add₀ two_ne_zero, leadingPlace]
    congr 1
    push_cast
    ring

theorem leadingPlace_add (f : FloatFormat) (v : Exact) : leadingPlace f v + f.fracBits = v.exp + v.mant.log2 := by
  unfold leadingPlace
  ring

/-- The branches of `fpRound` as bounds on the rounded number n * 2^t: it has the bits of a number m * 2^j with a normal
significand, so it exceeds the largest finite number, or reaches the smallest normal one, exactly where j does. -/
theorem exists_isNormal_bounds {f : FloatFormat} {n : Nat} (t : Int) (hlo : 2 ^ f.fracBits ≤ n)
    (hhi : n ≤ 2 ^ (f.fracBits + 1)) :
    ∃ m j, IsNormal f m ∧ t ≤ j ∧ (m : Rat) * 2 ^ j = n * 2 ^ t ∧ magnitudeBits f m j = magnitudeBits f n t ∧
      (infinityBits f ≤ magnitudeBits f n t ↔ f.minExp + f.maxField - 1 ≤ j) ∧
      (2 ^ f.fracBits ≤ magnitudeBits f n t ↔ f.minExp ≤ j) := by
  obtain ⟨m, j, hm, htj, hvalue, hbits⟩ := exists_isNormal (f := f) t hlo hhi
  refine ⟨m, j, hm, htj, hvalue, hbits, ?_, ?_⟩
  · rw [← hbits, ← hm.le_magnitudeBits_iff, infinityBits]
    push_cast
    rfl
  · have := hm.le_magnitudeBits_iff j 1
    rwa [hbits, one_mul, add_sub_cancel_right] at this

/-- Settles O59: the three branches of `fpRound` are the three clauses, since the bits of a number grow with it; where
the result is tiny, v is rounded once more, from the number it stands for. -/
theorem roundingFollowsItsRule : Obligations.RoundingFollowsItsRule := by
  intro f hf rm u v q h
  obtain ⟨hF, hM⟩ : f.fracBits ≤ 52 ∧ 2 ≤ f.maxField := by
    revert f
    decide
  obtain ⟨hn, hchanged⟩ := (h.readsAs hF le_rfl).rounds rm
  obtain ⟨hlo, hhi⟩ := h.rounded_bounds hn
  obtain ⟨m, j, hm, htj, hvalue, hbits, hinf, hmin⟩ := exists_isNormal_bounds (leadingPlace f v) hlo hhi
  refine ⟨leadingPlace f v, (roundTo rm v (leadingPlace f v)).1, ?_, ?_, hn, fun hover => ?_, fun hnormal hfinite => ?_,
    fun htiny => ?_⟩
  · rw [leadingPlace_add]
    exact h.bounds.1
  · rw [leadingPlace_add]
    exact h.bounds.2
  · rw [← hvalue] at hover
    rw [fpRound_overflow u (hinf.mpr ((hm.maxFinite_lt_iff j).mp hover))]
    simp only [overflowsToInfinity_iff]
  · rw [← hvalue] at hnormal hfinite
    have hj := (hm.zpow_le_iff j _).mp hnormal
    have hj' := mt (hm.maxFinite_lt_iff j).mpr (not_lt.mpr hfinite)
    rw [fpRound_normal u (mt hinf.mp hj') (hmin.mpr hj), ← hbits]
    refine ⟨⟨m, j, hm.unpack v.neg hj (not_le.mp hj'), hvalue⟩, ?_⟩
    simp only [hchanged, ne_eq, ite_not]
  · have hj := mt (hm.zpow_le_iff j _).mpr (not_le.mpr (hvalue ▸ htiny))
    have ht : leadingPlace f v < f.minExp := htj.trans_lt (not_le.mp hj)
    obtain ⟨hk, hchanged'⟩ := (h.readsAs hF ht.le).rounds rm
    rw [fpRound_tiny u (mt hinf.mp (by omega)) (mt hmin.mp hj)]
    have hsmall : (roundTo rm v f.minExp).1 ≤ 2 ^ f.fracBits := by
      refine hk.le_natCast ((div_le_iff₀ (zpow_two_pos _)).mpr (h.bounds.2.le.trans ?_))
      push_cast
      rw [← zpow_natCast, ← zpow_add₀ two_ne_zero]
      exact zpow_two_le (by unfold leadingPlace at ht; omega)
    refine ⟨_, hk, ⟨_, _, unpack_subnormal v.neg hM hsmall, rfl⟩, ?_⟩
    simp only [hchanged', ne_eq, ite_not]

end Sys2Proof.Machine

namespace Sys2Proof.Machine

/-! ## Floating point: conversion of short floats and comparison -/

/-! ### Numbers that a double holds -/

/-- q is a magnitude that a double holds exactly. -/
def IsDouble (q : Rat) : Prop :=
  ∃ (m : Nat) (j : Int), q = m * 2 ^ j ∧ m < 2 ^ 53 ∧ -1074 ≤ j ∧ j ≤ 971

/-- A multiple of a power of two that is rounded at a place below it does not change. -/
theorem RoundsTo.mul_zpow_eq {rm : Rounding} {neg : Bool} {m n : Nat} {j t : Int}
    (h : RoundsTo rm neg (m * 2 ^ j / 2 ^ t) n) (ht : t ≤ j) : (n : Rat) * 2 ^ t = m * 2 ^ j := by
  rw [← natCast_mul_zpow m ht, mul_div_cancel_right₀ _ (zpow_two_pos t).ne'] at h
  rw [h.eq_of_natCast, natCast_mul_zpow m ht]

/-- fp_round leaves a number that a double holds as it is. -/
theorem fpRound_of_isDouble {v : Exact} (hv : v.mant ≠ 0) (h : IsDouble v.magnitude) (rm : Rounding) (u : Bool) :
    ∃ r e, unpack doubleFormat (fpRound doubleFormat rm u v).1 = .fin v.neg r e ∧ (r : Rat) * 2 ^ e = v.magnitude := by
  obtain ⟨t, n, hlo, -, hn, -, hnormal, htiny⟩ :=
    roundingFollowsItsRule doubleFormat (by decide) rm u v v.magnitude ⟨hv, .inl rfl⟩
  obtain ⟨m, j, hq, hm, hmin, hmax⟩ := h
  have hfinite : (m : Rat) * 2 ^ j ≤ maxFinite doubleFormat :=
    le_maxFinite (by simpa [doubleFormat] using hm) (by simpa [doubleFormat] using hmax)
  rw [hq] at hlo hn ⊢
  have htj : t ≤ j := by
    have hlt : (2 : Rat) ^ (t + 52) < 2 ^ (j + 53) := by
      refine hlo.trans_lt ?_
      rw [zpow_add₀ two_ne_zero, mul_comm]
      exact mul_lt_mul_of_pos_left (by exact_mod_cast hm) (zpow_two_pos j)
    have := (zpow_lt_zpow_iff_right₀ one_lt_two).mp hlt
    omega
  have hvalue := hn.mul_zpow_eq htj
  rcases lt_or_ge ((n : Rat) * 2 ^ t) (2 ^ (doubleFormat.minExp + doubleFormat.fracBits)) with hlt | hge
  · obtain ⟨k, hk, ⟨r, e, hr, hre⟩, -⟩ := htiny hlt
    rw [hq] at hk
    exact ⟨r, e, hr, hre.trans (hk.mul_zpow_eq hmin)⟩
  · obtain ⟨⟨r, e, hr, hre⟩, -⟩ := hnormal hge (hvalue ▸ hfinite)
    exact ⟨r, e, hr, hre.trans hvalue⟩

/-- A register that takes a packed number holds this number, a zero with the given sign. -/
theorem unpackDouble_packExact (neg : Bool) {m : Nat} {e : Int} (h : IsDouble (m * 2 ^ e)) :
    ∃ r d, unpackDouble (BitVec.ofNat 64 (packExact doubleFormat neg m e)) = .fin neg r d ∧
      (r : Rat) * 2 ^ d = m * 2 ^ e := by
  rw [unpackDouble_ofNat, packExact]
  split
  · rename_i hm
    exact ⟨0, -1074, unpack_subnormal neg (by decide) (by decide), by simp [hm]⟩
  · exact fpRound_of_isDouble (v := ⟨neg, m, e⟩) ‹_› h ..

theorem unpackDouble_fin_bounds {v : Octa} {neg : Bool} {m : Nat} {e : Int} (h : unpackDouble v = .fin neg m e) :
    m < 2 ^ 53 ∧ -1074 ≤ e ∧ e ≤ 971 := by
  simpa [doubleFormat] using unpack_fin_bounds (f := doubleFormat) (by decide) h

/-- Settles O36: a short float has a significand and an exponent that a double holds. -/
theorem shortFloatsConvertExactly : Obligations.ShortFloatsConvertExactly := by
  intro t _
  unfold fromShort
  cases h : unpack shortFormat t with
  | nan g => exact ⟨by simp [Fp.isNaN], nofun⟩
  | inf neg =>
    refine ⟨by simp [Fp.isNaN], fun d hd => ?_⟩
    cases hd
    rw [unpackDouble_infinity]
    exact rfl
  | fin neg m e =>
    refine ⟨by simp [Fp.isNaN], fun d hd => ?_⟩
    cases hd
    obtain ⟨hm, hmin, hmax⟩ : m < 2 ^ 24 ∧ -149 ≤ e ∧ e ≤ 104 := by
      simpa [shortFormat] using unpack_fin_bounds (f := shortFormat) (by decide) h
    obtain ⟨r, d, hr, hvalue⟩ := unpackDouble_packExact neg (m := m) (e := e) ⟨m, e, rfl, by omega, by omega, by omega⟩
    rw [hr]
    exact ⟨rfl, rationalOf_congr hvalue.symm⟩

/-! ### Comparison -/

/-- The model's comparison, which counts both numbers in one unit, is that of extended real numbers. -/
theorem floatLess_iff {y z : Fp} : floatLess y z = true ↔ y.Below z := by
  cases y with
  | nan g => cases z <;> simp [floatLess, Fp.Below]
  | inf a => cases z <;> simp [floatLess, Fp.Below]
  | fin a m e =>
    cases z with
    | nan g => simp [floatLess, Fp.Below]
    | inf b => simp [floatLess, Fp.Below]
    | fin b k f =>
      rw [Fp.Below, ← scaled_mul_zpow a m (min_le_left e f), ← scaled_mul_zpow b k (min_le_right e f),
        mul_lt_mul_iff_of_pos_right (zpow_two_pos _), Int.cast_lt]
      exact decide_eq_true_iff

/-- No number is below and above another. -/
theorem Fp.Below.asymm {y z : Fp} (h : y.Below z) : ¬ z.Below y := by
  cases y with
  | nan g => cases z <;> exact h.elim
  | inf a => cases z <;> simp_all [Fp.Below]
  | fin a m e =>
    cases z with
    | nan g => exact h.elim
    | inf b => simp_all [Fp.Below]
    | fin b k f => exact lt_asymm h

theorem floatCompare_number {y z : Fp} (hy : y.isNaN = false) (hz : z.isNaN = false) :
    floatCompare y z =
      .value (if floatLess y z then 0xFFFFFFFFFFFFFFFF else if floatLess z y then 1 else 0) [] := by
  simp only [floatCompare, hy, hz]
  split
  · contradiction
  · split
    · rfl
    · split <;> rfl

/-- Settles O50 by `floatLess_iff`. -/
theorem floatingComparisons : Obligations.FloatingComparisons := by
  intro s x y z a b ha hb
  have hcmp : exec (.fcmp x y z) s = deliver s x (floatCompare a b) := by rw [ha, hb]; rfl
  have heql : exec (.feql x y z) s = deliver s x (floatEqual a b) := by rw [ha, hb]; rfl
  refine ⟨fun h => ?_, fun hna hnb => ?_⟩
  · have hnan : (a.isNaN || b.isNaN) = true := by simpa using h
    exact ⟨delivers_value hcmp (if_pos hnan) rfl,
      signallingEvents_eq a b ▸ delivers_value heql (if_pos hnan) rfl⟩
  · have hnan : ¬ (a.isNaN || b.isNaN) = true := by simp [hna, hnb]
    refine ⟨delivers_value hcmp (floatCompare_number hna hnb) ⟨fun h => ?_, fun h => ?_, fun h h' => ?_⟩,
      delivers_value heql (if_neg hnan) ⟨fun h => ?_, fun h h' => ?_⟩⟩
    · rw [if_pos (floatLess_iff.mpr h)]
    · rw [if_neg (mt floatLess_iff.mp h.asymm), if_pos (floatLess_iff.mpr h)]
    · rw [if_neg (mt floatLess_iff.mp h), if_neg (mt floatLess_iff.mp h')]
    · rw [if_pos (by simpa only [Bool.or_eq_true, floatLess_iff] using h)]
    · rw [if_neg (by simp only [Bool.or_eq_true, floatLess_iff]; exact not_or.mpr ⟨h, h'⟩)]

end Sys2Proof.Machine

namespace Sys2Proof.Machine

/-! ## Floating point: arithmetic -/

/-! ### Addition -/

theorem exactOfInt_magnitude (n e : Int) : (exactOfInt n e).magnitude = |(n : Rat) * 2 ^ e| := by
  rw [abs_mul, abs_of_pos (zpow_two_pos e), ← Int.cast_abs, Int.abs_eq_natAbs]
  rfl

theorem exactOfInt_standsFor {n : Int} (hn : n ≠ 0) (e : Int) : (exactOfInt n e).standsFor |(n : Rat) * 2 ^ e| :=
  ⟨Int.natAbs_ne_zero.mpr hn, .inl (exactOfInt_magnitude n e)⟩

theorem exactOfInt_neg (n e : Int) : (exactOfInt n e).neg = true ↔ (n : Rat) * 2 ^ e < 0 := by
  rw [← zero_mul ((2 : Rat) ^ e), mul_lt_mul_iff_of_pos_right (zpow_two_pos e), Int.cast_lt_zero]
  exact decide_eq_true_iff

theorem eq_of_inf_ne_inf_not {m n : Bool} (h : Fp.inf m ≠ .inf (!n)) : m = n := by
  simpa using h

theorem floatAdd_inf_left {rm : Rounding} {u n : Bool} {b : Fp} (h : b.isNaN = false) (hb : b ≠ .inf (!n)) :
    floatAdd rm u (.inf n) b = .value (infinity n) [] := by
  cases b with
  | nan g => cases h
  | inf m => exact if_pos (eq_of_inf_ne_inf_not hb).symm
  | fin m k e => rfl

theorem floatAdd_inf_right {rm : Rounding} {u n : Bool} {a : Fp} (h : a.isNaN = false) (ha : a ≠ .inf (!n)) :
    floatAdd rm u a (.inf n) = .value (infinity n) [] := by
  cases a with
  | nan g => cases h
  | inf m =>
    obtain rfl := eq_of_inf_ne_inf_not ha
    exact if_pos rfl
  | fin m k e => rfl

/-- The sum that `addFinite` forms in the smaller unit is exact. -/
theorem scaled_add_scaled (a b : Bool) (m k : Nat) (e f : Int) :
    ((scaled a m e (min e f) + scaled b k f (min e f) : Int) : Rat) * 2 ^ min e f =
      rationalOf a m e + rationalOf b k f := by
  rw [Int.cast_add, add_mul, scaled_mul_zpow a m (min_le_left e f), scaled_mul_zpow b k (min_le_right e f)]

/-- Settles O51: `addFinite` rounds the exact sum, counted in the smaller of the two units. -/
theorem floatingAddition : Obligations.FloatingAddition := by
  intro s x y z a c ha hc p hp b hb
  have hi : exec p.1 s = deliver s x (floatAdd (roundingMode s) (enabled s .U) a b) := by
    simp only [List.mem_cons, List.not_mem_nil, or_false] at hp
    rcases hp with rfl | rfl <;> rw [hb, ha, hc] <;> rfl
  refine ⟨(floatAdd_propagatesNaN ..).delivers hi, fun n m hn hm hne => ?_, fun n h => ?_, fun n m e k l f hn hk => ?_⟩
  · subst hn hm
    exact delivers_quietNaN hi (if_neg hne)
  · rcases h with ⟨rfl, h, hne⟩ | ⟨rfl, h, hne⟩
    · exact delivers_value hi (floatAdd_inf_left h hne) (unpackDouble_infinity n)
    · exact delivers_value hi (floatAdd_inf_right h hne) (unpackDouble_infinity n)
  · subst hn hk
    simp only [Fp.value, ← scaled_add_scaled]
    generalize hv : scaled n m e (min e f) + scaled k l f (min e f) = v
    have hadd : floatAdd (roundingMode s) (enabled s .U) (.fin n m e) (.fin k l f) =
        if v = 0 then .value (signedZero (if m = 0 ∧ l = 0 ∧ n = k then n else decide (roundingMode s = .down))) []
        else rounded (roundingMode s) (enabled s .U) (exactOfInt v (min e f)) := hv ▸ rfl
    have hzero : (v : Rat) * 2 ^ min e f = 0 ↔ v = 0 := by
      rw [mul_eq_zero, or_iff_left (zpow_two_pos _).ne', Int.cast_eq_zero]
    rw [Ne, hzero]
    exact ⟨fun h => delivers_value hi (hadd.trans (if_pos h)) (signedZero_eq _), fun h =>
      ⟨_, exactOfInt_neg v _, exactOfInt_standsFor h _, delivers_rounded hi (hadd.trans (if_neg h))⟩⟩

/-! ### Multiplication -/

theorem abs_mul_abs_rationalOf (a b : Bool) (m k : Nat) (e f : Int) :
    |rationalOf a m e * rationalOf b k f| = (m * k : Nat) * (2 : Rat) ^ (e + f) := by
  rw [abs_mul, abs_rationalOf, abs_rationalOf, zpow_add₀ two_ne_zero]
  push_cast
  ring

/-- Settles O52: the significands are multiplied and the exponents added. -/
theorem floatingMultiplication : Obligations.FloatingMultiplication := by
  intro s x y z a b ha hb
  have hi : exec (.fmul x y z) s = deliver s x (floatMul (roundingMode s) (enabled s .U) a b) := by
    rw [ha, hb]
    rfl
  refine ⟨(floatMul_propagatesNaN ..).delivers hi, fun n k m e h => ?_, fun n k hn hk => ?_,
    fun n m e k l f hn hk => ?_⟩
  · have hmul : floatMul (roundingMode s) (enabled s .U) a b =
        if m = 0 then .quietNaN [.I] else .value (infinity (xor n k)) [] := by
      rcases h with ⟨rfl, rfl⟩ | ⟨rfl, rfl⟩
      · rfl
      · rw [Bool.xor_comm]; rfl
    exact ⟨fun h => delivers_quietNaN hi (hmul.trans (if_pos h)),
      fun h => delivers_value hi (hmul.trans (if_neg h)) (unpackDouble_infinity _)⟩
  · subst hn hk
    exact delivers_value hi rfl (unpackDouble_infinity _)
  · subst hn hk
    refine ⟨fun h => delivers_value hi (if_pos (Nat.mul_eq_zero.mpr h)) (signedZero_eq _), fun hm hl => ?_⟩
    have hne : m * l ≠ 0 := Nat.mul_ne_zero hm hl
    exact ⟨⟨xor n k, m * l, e + f⟩, rfl, ⟨hne, .inl (abs_mul_abs_rationalOf ..).symm⟩,
      delivers_rounded hi (if_neg hne)⟩

/-! ### Division -/

/-- A sticky bit makes the significand odd where something was cut off (log entry 22). -/
theorem withStickyBit_cases {q : Nat} {exact : Bool} (hq : 2 ^ 58 ≤ q) :
    withStickyBit q exact ≠ 0 ∧ (exact = true ∧ withStickyBit q exact = 2 * q ∨
      exact = false ∧ withStickyBit q exact % 2 = 1 ∧ 2 ^ 59 ≤ withStickyBit q exact ∧
        withStickyBit q exact = 2 * q + 1) := by
  cases exact <;> simp [withStickyBit] <;> omega

/-- A number x between the integer q and the next one is what q with a sticky bit stands for, the bit half a unit. -/
theorem withStickyBit_standsFor {x : Rat} {q r d : Nat} (h : LiesAs x q r d) (hq : 2 ^ 58 ≤ q) {w : Exact}
    (hmant : w.mant = withStickyBit q (decide (r = 0))) : w.standsFor (x * (2 * 2 ^ w.exp)) := by
  have hunit : (0 : Rat) < 2 * 2 ^ w.exp := by positivity
  rw [Exact.standsFor, Exact.magnitude, hmant]
  obtain ⟨hne, ⟨hexact, heven⟩ | ⟨hexact, hodd, hbig, hsticky⟩⟩ := withStickyBit_cases (exact := decide (r = 0)) hq
  · refine ⟨hne, .inl ?_⟩
    rw [heven, h.integer.mpr (of_decide_eq_true hexact)]
    push_cast
    ring
  · have habove : (q : Rat) < x := lt_of_le_of_ne h.floor_le (Ne.symm (mt h.integer.mp (of_decide_eq_false hexact)))
    refine ⟨hne, .inr ⟨hodd, hbig, ?_, ?_⟩⟩
    · calc _ = (q : Rat) * (2 * 2 ^ w.exp) := by rw [hsticky]; push_cast; ring
        _ < x * (2 * 2 ^ w.exp) := mul_lt_mul_of_pos_right habove hunit
    · calc x * (2 * 2 ^ w.exp) < (q + 1) * (2 * 2 ^ w.exp) := mul_lt_mul_of_pos_right h.lt_succ hunit
        _ = _ := by rw [hsticky]; push_cast; ring

/-- The quotient of two numbers in units of 2^(e - f - 120). -/
theorem abs_div_rationalOf (a b : Bool) (m k : Nat) (e f : Int) :
    |rationalOf a m e / rationalOf b k f| = ((m * 2 ^ 120 : Nat) : Rat) / k * (2 * 2 ^ (e - f - 121)) := by
  have hunit : (2 : Rat) ^ e = 2 ^ 120 * (2 * 2 ^ (e - f - 121)) * 2 ^ f := by
    rw [← zpow_natCast, ← zpow_one_add₀ two_ne_zero, ← zpow_add₀ two_ne_zero, ← zpow_add₀ two_ne_zero]
    congr 1
    push_cast
    ring
  rw [abs_div, abs_rationalOf, abs_rationalOf, hunit, ← mul_assoc, mul_div_mul_right _ _ (zpow_two_pos f).ne']
  push_cast
  ring

/-- 120 more bits than the dividend has leave 67 bits and more in front of the sticky bit. -/
theorem quotient_standsFor {m k : Nat} (a b : Bool) (e f : Int) (hm : m ≠ 0) (hk : k ≠ 0) (hk53 : k < 2 ^ 53) :
    (quotient (xor a b) m e k f).standsFor |rationalOf a m e / rationalOf b k f| := by
  have hk0 := Nat.pos_of_ne_zero hk
  have hlarge : 2 ^ 58 ≤ m * 2 ^ 120 / k := by
    rw [Nat.le_div_iff_mul_le hk0]
    omega
  rw [abs_div_rationalOf]
  exact withStickyBit_standsFor (liesAs_div _ hk0) hlarge rfl

/-- Settles O53 by `quotient_standsFor`. -/
theorem floatingDivision : Obligations.FloatingDivision := by
  intro s x y z a b ha hb
  have hi : exec (.fdiv x y z) s = deliver s x (floatDiv (roundingMode s) (enabled s .U) a b) := by
    rw [ha, hb]
    rfl
  refine ⟨(floatDiv_propagatesNaN ..).delivers hi, fun n k hn hk => ?_, fun n k m e hn hk => ?_,
    fun n k m e hn hk => ?_, fun n m e k l f hn hk => ?_⟩
  · subst hn hk
    exact delivers_quietNaN hi rfl
  · subst hn hk
    exact delivers_value hi rfl (unpackDouble_infinity _)
  · subst hn hk
    exact delivers_value hi rfl (Bool.xor_comm k n ▸ signedZero_eq _)
  · obtain ⟨hl53, -⟩ := unpackDouble_fin_bounds (hb.symm.trans hk)
    subst hn hk
    refine ⟨fun hl hm => ?_, fun hl hm => ?_, fun hl hm => ?_, fun hl hm => ?_⟩
    · exact delivers_quietNaN hi ((if_pos hl).trans (if_pos hm))
    · exact delivers_value hi ((if_pos hl).trans (if_neg hm)) (unpackDouble_infinity _)
    · exact delivers_value hi ((if_neg hl).trans (if_pos hm)) (signedZero_eq _)
    · exact ⟨quotient (xor n k) m e l f, rfl, quotient_standsFor n k e f hm hl hl53,
        delivers_rounded hi ((if_neg hl).trans (if_neg hm))⟩

/-! ### Square root -/

/-- The bits that are left complete r to the integer square root. -/
theorem rootBits_bounds {n : Nat} (b : Nat) {r : Nat} (hlo : r * r ≤ n) (hhi : n < (r + 2 ^ b) * (r + 2 ^ b)) :
    rootBits n b r * rootBits n b r ≤ n ∧ n < (rootBits n b r + 1) * (rootBits n b r + 1) := by
  induction b generalizing r with
  | zero => exact ⟨hlo, hhi⟩
  | succ b ih =>
    rw [rootBits]
    split
    · refine ih ‹_› ?_
      rwa [Nat.add_assoc, ← Nat.two_mul, ← Nat.pow_succ']
    · exact ih hlo (not_le.mp ‹_›)

/-- The bits of a root that is counted in units x, and its sticky bit, which is half a unit. -/
theorem withStickyBit_root {n r : Nat} {x : Rat} (hx : 0 < x) (hlo : r * r ≤ n) (hhi : n < (r + 1) * (r + 1))
    (hr : 2 ^ 58 ≤ r) {w : Exact} (hmant : w.mant = withStickyBit r (decide (r * r = n))) (hexp : 2 ^ w.exp = x) :
    w.mant ≠ 0 ∧ (w.magnitude * w.magnitude = n * (2 * x) ^ 2 ∨ (w.mant % 2 = 1 ∧ 2 ^ 59 ≤ w.mant ∧
      (((w.mant : Rat) - 1) * 2 ^ w.exp) ^ 2 < n * (2 * x) ^ 2 ∧
        n * (2 * x) ^ 2 < (((w.mant : Rat) + 1) * 2 ^ w.exp) ^ 2)) := by
  have hsq : 0 < (2 * x) ^ 2 := by positivity
  rw [Exact.magnitude, hexp, hmant]
  obtain ⟨hne, ⟨hexact, heven⟩ | ⟨hexact, hodd, hbig, hsticky⟩⟩ :=
    withStickyBit_cases (exact := decide (r * r = n)) hr
  · refine ⟨hne, .inl ?_⟩
    rw [heven, ← of_decide_eq_true hexact]
    push_cast
    ring
  · refine ⟨hne, .inr ⟨hodd, hbig, ?_, ?_⟩⟩
    · have hlt : (r * r : Rat) < n := by exact_mod_cast lt_of_le_of_ne hlo (of_decide_eq_false hexact)
      calc _ = r * r * (2 * x) ^ 2 := by rw [hsticky]; push_cast; ring
        _ < n * (2 * x) ^ 2 := mul_lt_mul_of_pos_right hlt hsq
    · have hlt : (n : Rat) < (r + 1) * (r + 1) := by exact_mod_cast hhi
      calc _ < (r + 1) * (r + 1) * (2 * x) ^ 2 := mul_lt_mul_of_pos_right hlt hsq
        _ = _ := by rw [hsticky]; push_cast; ring

/-- The root is taken of m * 2^(128 + odd), a number of 129 to 182 bits that lies an even number of places below
m * 2^e: 64 bits and more stand in front of the sticky bit. -/
theorem squareRoot_brackets {m : Nat} (hm : m ≠ 0) (hm53 : m < 2 ^ 53) (e : Int) {w : Exact} (hw : w = squareRoot m e) :
    w.mant ≠ 0 ∧ (w.magnitude * w.magnitude = m * 2 ^ e ∨ (w.mant % 2 = 1 ∧ 2 ^ 59 ≤ w.mant ∧
      (((w.mant : Rat) - 1) * 2 ^ w.exp) ^ 2 < m * 2 ^ e ∧ m * 2 ^ e < (((w.mant : Rat) + 1) * 2 ^ w.exp) ^ 2)) := by
  have hodd : 0 ≤ e % 2 ∧ e % 2 ≤ 1 := by omega
  obtain ⟨k, hk⟩ : ∃ k, (128 + e % 2).toNat = k := ⟨_, rfl⟩
  have hk' : 128 ≤ k ∧ k ≤ 129 := by omega
  have hlo : 2 ^ 128 ≤ m * 2 ^ k :=
    (Nat.pow_le_pow_right two_pos hk'.1).trans (Nat.le_mul_of_pos_left _ (Nat.pos_of_ne_zero hm))
  have hhi : m * 2 ^ k < 2 ^ 192 :=
    calc m * 2 ^ k ≤ m * 2 ^ 129 := Nat.mul_le_mul_left _ (Nat.pow_le_pow_right two_pos hk'.2)
      _ < 2 ^ 192 := by omega
  obtain ⟨hr, hr'⟩ := rootBits_bounds (n := m * 2 ^ k) 96 (r := 0) (Nat.zero_le _) (by simpa using hhi)
  have hlarge : 2 ^ 58 ≤ rootBits (m * 2 ^ k) 96 0 := by
    by_contra hsmall
    have hsmall' : rootBits (m * 2 ^ k) 96 0 + 1 ≤ 2 ^ 58 := not_le.mp hsmall
    have := Nat.mul_le_mul hsmall' hsmall'
    omega
  have hvalue : (m : Rat) * 2 ^ e = (m * 2 ^ k : Nat) * (2 * 2 ^ w.exp) ^ 2 := by
    have hexp : e = k + ((1 + w.exp) + (1 + w.exp)) := by rw [hw]; simp only [squareRoot]; omega
    conv_lhs => rw [hexp, zpow_add₀ two_ne_zero, zpow_add₀ two_ne_zero, zpow_one_add₀ two_ne_zero, zpow_natCast]
    push_cast
    ring
  rw [hvalue]
  exact withStickyBit_root (zpow_two_pos _) hr hr' hlarge (by rw [hw, ← hk]; rfl) rfl

/-- Settles O54 by `squareRoot_brackets`. -/
theorem floatingSquareRoot : Obligations.FloatingSquareRoot := by
  intro s x z a ha
  have hi : exec (.fsqrt x 0 z) s = deliver s x (floatSqrt (roundingMode s) (reg s z) a) := by rw [ha]; rfl
  refine ⟨fun g h => ?_, fun h => ?_, fun h => ?_, fun m e h hm => ?_⟩
  · subst h
    exact delivers_quietNaN hi rfl
  · rcases h with rfl | ⟨m, e, rfl, hm⟩
    · exact delivers_quietNaN hi rfl
    · exact delivers_quietNaN hi (if_neg hm)
  · rcases h with rfl | ⟨n, e, rfl⟩
    · exact delivers_value hi rfl rfl
    · exact delivers_value hi rfl rfl
  · obtain ⟨hm53, -⟩ := unpackDouble_fin_bounds (ha.symm.trans h)
    have hvalue : a.value = m * 2 ^ e := by rw [h]; simp [Fp.value, rationalOf]
    subst h
    obtain ⟨hne, hroot⟩ := squareRoot_brackets hm hm53 e rfl
    exact ⟨squareRoot m e, rfl, hne, hvalue ▸ hroot, delivers_rounded hi (if_neg hm)⟩

/-! ### Remainder -/

/-- `nearestRemainder` subtracts the nearest multiple, the even one on a tie. -/
theorem nearestRemainder_spec (a : Nat) {b : Nat} (hb : 0 < b) :
    ∃ n : Nat, RoundsTo .near false ((a : Rat) / b) n ∧
      (a : Int) - n * b = signOf (nearestRemainder a b).2 * (nearestRemainder a b).1 := by
  have hab : (a : Int) = a / b * b + a % b := (Int.ediv_mul_add_emod ..).symm
  have hlt := Nat.mod_lt a hb
  refine ⟨_, (liesAs_div a hb).nearest, ?_⟩
  unfold nearestRemainder
  dsimp only
  split
  · rw [hab, Nat.cast_sub hlt.le]
    simp only [signOf, if_true]
    push_cast
    ring
  · rw [hab]
    simp only [signOf]
    push_cast
    simp

/-- The remainder is at most the dividend, and at most the divisor. -/
theorem nearestRemainder_le (a : Nat) {b : Nat} (hb : 0 < b) :
    (nearestRemainder a b).1 ≤ a ∧ (nearestRemainder a b).1 ≤ b := by
  have hle := Nat.mod_le a b
  have hlt := Nat.mod_lt a hb
  unfold nearestRemainder
  dsimp only
  split <;> constructor <;> dsimp only <;> omega

/-- The nearest integer to a quotient of two numbers that are counted in one unit, and the remainder, by signs and
magnitudes. -/
theorem exists_nearest (n k : Bool) (a : Nat) {b : Nat} (hb : 0 < b) (e : Int) :
    ∃ q : Int, |rationalOf n a e / rationalOf k b e - q| ≤ 1 / 2 ∧
      (|rationalOf n a e / rationalOf k b e - q| = 1 / 2 → q % 2 = 0) ∧
      rationalOf (xor n (nearestRemainder a b).2) (nearestRemainder a b).1 e =
        rationalOf n a e - q * rationalOf k b e := by
  obtain ⟨c, ⟨hnear, htie⟩, hr⟩ := nearestRemainder_spec a hb
  have hquotient : rationalOf n a e / rationalOf k b e = signOf (xor n k) * ((a : Rat) / b) := by
    rw [rationalOf_eq_signOf_mul, rationalOf_eq_signOf_mul, mul_div_mul_comm,
      mul_div_mul_right _ _ (zpow_two_pos e).ne']
    cases n <;> cases k <;> norm_num [signOf]
  have hdistance : |rationalOf n a e / rationalOf k b e - (signOf (xor n k) * c : Int)| = |(a : Rat) / b - c| := by
    rw [hquotient, Int.cast_mul, Int.cast_natCast, ← mul_sub, abs_mul]
    cases xor n k <;> simp [signOf]
  have hr' : (a : Rat) - c * b = signOf (nearestRemainder a b).2 * (nearestRemainder a b).1 := by exact_mod_cast hr
  have hk : (signOf k : Rat) * signOf k = 1 := by exact_mod_cast signOf_mul_self k
  refine ⟨signOf (xor n k) * c, hdistance ▸ hnear, fun h => ?_, ?_⟩
  · have even : (2 : Int) ∣ c := by have := htie (hdistance ▸ h); omega
    exact Int.emod_eq_zero_of_dvd (even.mul_left _)
  · simp only [rationalOf_eq_signOf_mul, signOf_xor]
    push_cast
    linear_combination (-(signOf n : Rat) * 2 ^ e) * hr' + (signOf n * c * b * 2 ^ e : Rat) * hk

/-- The remainder of two doubles fits into a double: it is at most the operand with the smaller exponent. -/
theorem remainder_isDouble {m k : Nat} {e f : Int} (hm : m < 2 ^ 53) (hk : k < 2 ^ 53) (hk0 : 0 < k)
    (he : -1074 ≤ e ∧ e ≤ 971) (hf : -1074 ≤ f ∧ f ≤ 971) :
    IsDouble ((nearestRemainder (m * 2 ^ (e - min e f).toNat) (k * 2 ^ (f - min e f).toNat)).1 * 2 ^ min e f) := by
  have hle := nearestRemainder_le (m * 2 ^ (e - min e f).toNat) (b := k * 2 ^ (f - min e f).toNat) (by positivity)
  refine ⟨_, min e f, rfl, ?_, by omega, by omega⟩
  rcases min_choice e f with h | h
  · rw [h, sub_self] at hle
    rw [h, sub_self]
    exact hle.1.trans_lt (by simpa using hm)
  · rw [h, sub_self] at hle
    rw [h, sub_self]
    exact hle.2.trans_lt (by simpa using hk)

/-- Counted in a smaller unit, a number stays the same. -/
theorem rationalOf_eq_of_le (neg : Bool) (m : Nat) {e d : Int} (h : d ≤ e) :
    rationalOf neg m e = rationalOf neg (m * 2 ^ (e - d).toNat) d :=
  rationalOf_congr (natCast_mul_zpow m h).symm

/-- Settles O55: both operands are counted in the smaller of their units, and the remainder is exact. -/
theorem floatingRemainder : Obligations.FloatingRemainder := by
  intro s x y z a b ha hb
  have hi : exec (.frem x y z) s = deliver s x (floatRemainder (reg s y) a b) := by rw [ha, hb]; rfl
  refine ⟨(floatRemainder_propagatesNaN _).delivers hi, fun h => ?_, fun n m e k hn hk => ?_,
    fun n m e k l f hn hk hl => ?_⟩
  · have hinvalid : floatRemainder (reg s y) a b = .quietNaN [.I] := by
      rcases h with ⟨⟨n, rfl⟩, h⟩ | ⟨⟨n, e, rfl⟩, h⟩
      · cases b with
        | nan g => cases h
        | inf k => rfl
        | fin k l f => rfl
      · cases a with
        | nan g => cases h
        | inf k => rfl
        | fin k l f => rfl
    exact delivers_quietNaN hi hinvalid
  · subst hn hk
    exact delivers_value hi rfl rfl
  · obtain ⟨hm53, he⟩ := unpackDouble_fin_bounds (ha.symm.trans hn)
    obtain ⟨hl53, hf⟩ := unpackDouble_fin_bounds (hb.symm.trans hk)
    subst hn hk
    refine ⟨fun hm => delivers_value hi ((if_neg hl).trans (if_pos hm)) rfl, fun hm => ?_⟩
    have hl0 := Nat.pos_of_ne_zero hl
    obtain ⟨q, hnear, htie, hvalue⟩ := exists_nearest n k (m * 2 ^ (e - min e f).toNat)
      (b := l * 2 ^ (f - min e f).toNat) (by positivity) (min e f)
    have hdouble := remainder_isDouble hm53 hl53 hl0 he hf
    simp only [Fp.value, rationalOf_eq_of_le n m (min_le_left e f), rationalOf_eq_of_le k l (min_le_right e f)]
    refine ⟨q, hnear, htie, delivers_value hi ((if_neg hl).trans (if_neg hm)) ?_⟩
    generalize nearestRemainder (m * 2 ^ (e - min e f).toNat) (l * 2 ^ (f - min e f).toNat) = r at *
    obtain ⟨c, d, hc, hcd⟩ := unpackDouble_packExact (if r.1 = 0 then n else xor n r.2) hdouble
    refine ⟨_, c, d, hc, ?_, fun hc0 => ?_⟩
    · rw [← hvalue, rationalOf_congr hcd]
      split
      · rw [rationalOf_eq_zero.mpr ‹_›, rationalOf_eq_zero.mpr ‹_›]
      · rfl
    · have : r.1 = 0 := by simpa [hc0, (zpow_two_pos _).ne'] using hcd
      rw [if_pos this]

/-! ### Rounding to an integer -/

/-- A flag that says whether rounding changed the number, read the other way round. -/
theorem inexactEvents_eq {changed : Bool} {p q : Rat} (h : changed = true ↔ p ≠ q) :
    (if changed then [Event.X] else []) = if p = q then [] else [.X] := by
  simp only [h, ne_eq, ite_not]

/-- A number of a pattern, rounded to an integer in units of 1. -/
theorem roundTo_zero_spec (rm : Rounding) (neg : Bool) (m : Nat) (e : Int) :
    RoundsTo rm neg |rationalOf neg m e| (roundTo rm ⟨neg, m, e⟩ 0).1 ∧
      ((roundTo rm ⟨neg, m, e⟩ 0).2 = true ↔ ((roundTo rm ⟨neg, m, e⟩ 0).1 : Rat) ≠ |rationalOf neg m e|) := by
  rw [abs_rationalOf]
  simpa [Exact.magnitude] using Exact.ReadsAs.rounds (v := ⟨neg, m, e⟩) (t := 0) (.inl rfl) rm

/-- A double rounded to an integer is a double: it is the number itself, or 2^52 at most. -/
theorem roundTo_zero_isDouble (rm : Rounding) (neg : Bool) {m : Nat} {e : Int} (hm : m < 2 ^ 53)
    (he : -1074 ≤ e ∧ e ≤ 971) : IsDouble ((roundTo rm ⟨neg, m, e⟩ 0).1 * 2 ^ (0 : Int)) := by
  obtain ⟨hround, -⟩ := roundTo_zero_spec rm neg m e
  rw [abs_rationalOf] at hround
  rcases le_or_gt 0 e with h | h
  · refine ⟨m, e, RoundsTo.mul_zpow_eq (rm := rm) (neg := neg) ?_ h, hm, he⟩
    rwa [zpow_zero, div_one]
  · refine ⟨_, 0, rfl, (hround.le_natCast (c := 2 ^ 52) ?_).trans_lt (by norm_num), by norm_num, by norm_num⟩
    calc (m : Rat) * 2 ^ e ≤ 2 ^ 53 * 2 ^ (-1 : Int) :=
          mul_le_mul (by exact_mod_cast hm.le) (zpow_two_le (by omega)) (zpow_two_pos e).le (by norm_num)
      _ ≤ (2 ^ 52 : Nat) := by norm_num

/-- Settles O56: `roundTo` rounds to an integer, which a double holds. -/
theorem floatingInteger : Obligations.FloatingInteger := by
  intro s x z a ha
  have hi : exec (.fint x 0 z) s = deliver s x (floatInteger (roundingMode s) (reg s z) a) := by rw [ha]; rfl
  refine ⟨fun g h => ?_, fun h => ?_, fun g m e h hm => ?_⟩
  · subst h
    exact delivers_quietNaN hi rfl
  · rcases h with ⟨n, rfl⟩ | ⟨n, e, rfl⟩
    · exact delivers_value hi rfl rfl
    · exact delivers_value hi rfl rfl
  · obtain ⟨hm53, he⟩ := unpackDouble_fin_bounds (ha.symm.trans h)
    subst h
    obtain ⟨hround, hchanged⟩ := roundTo_zero_spec (roundingMode s) g m e
    obtain ⟨r, d, hr, hvalue⟩ := unpackDouble_packExact g (roundTo_zero_isDouble (roundingMode s) g hm53 he)
    have hevents := inexactEvents_eq hchanged
    exact ⟨_, hround, hevents ▸ delivers_value hi (if_neg hm) ⟨r, d, hr, hvalue.trans (by simp)⟩⟩

/-! ### Conversion from an integer -/

/-- A number rounded to the 24 bits of a short float is a double as long as it is small enough. -/
theorem roundedShort_spec {v : Exact} {q : Rat} (rm : Rounding) (hv : v.mant ≠ 0) (hq : v.magnitude = q)
    (hexp : -1000 ≤ v.exp) (hlarge : v.exp + v.mant.log2 ≤ 900) :
    ∃ (t : Int) (n : Nat), (2 : Rat) ^ (t + 23) ≤ q ∧ q < (2 : Rat) ^ (t + 24) ∧ RoundsTo rm v.neg (q / 2 ^ t) n ∧
      ∃ d, roundedShort rm v = .value d (if (n : Rat) * 2 ^ t = q then [] else [.X]) ∧
        ∃ r h, unpackDouble d = .fin v.neg r h ∧ (r : Rat) * 2 ^ h = n * 2 ^ t := by
  have hstands : v.standsFor q := ⟨hv, .inl hq⟩
  obtain ⟨hround, hchanged⟩ := Exact.ReadsAs.rounds (t := leadingPlace shortFormat v) (.inl hq) rm
  obtain ⟨-, hhi⟩ := hstands.rounded_bounds hround
  have hplace : leadingPlace shortFormat v = v.exp + v.mant.log2 - 23 := rfl
  have hdouble : IsDouble ((roundTo rm v (leadingPlace shortFormat v)).1 * 2 ^ leadingPlace shortFormat v) :=
    ⟨_, _, rfl, hhi.trans_lt (by decide), by omega, by omega⟩
  refine ⟨leadingPlace shortFormat v, _, ?_, ?_, hround, _, ?_, unpackDouble_packExact v.neg hdouble⟩
  · rw [hplace, sub_add_cancel]
    exact hstands.bounds.1
  · rw [hplace, show v.exp + v.mant.log2 - 23 + 24 = v.exp + v.mant.log2 + 1 by ring]
    exact hstands.bounds.2
  · rw [← inexactEvents_eq hchanged]
    rfl

end Sys2Proof.Machine

namespace Sys2Proof

open Machine

/-! ### FIX and FLOT

The statements have the names of the functions `Machine.floatToFix` and `Machine.fixToFloat`, so their theorems stand
outside the namespace of the machine. -/

/-- Settles O57: both instructions round as FINT does, and differ in the range they allow. -/
theorem floatToFix : Obligations.FloatToFix := by
  intro s x z a ha
  have hfix : exec (.fix x 0 z) s = deliver s x (Machine.floatToFix (roundingMode s) a) := by rw [ha]; rfl
  have hfixu : exec (.fixu x 0 z) s = deliver s x (floatToFixUnsigned (roundingMode s) a) := by rw [ha]; rfl
  refine ⟨fun h => ?_, fun g m e h => ?_⟩
  · cases a with
    | nan g => exact ⟨delivers_unspecified hfix rfl, delivers_unspecified hfixu rfl⟩
    | inf n => exact ⟨delivers_unspecified hfix rfl, delivers_unspecified hfixu rfl⟩
    | fin g m e => simp [Fp.isNaN] at h
  · subst h
    obtain ⟨hround, hchanged⟩ := roundTo_zero_spec (roundingMode s) g m e
    refine ⟨_, hround, fun k hk => ?_⟩
    obtain rfl : (roundToInt (roundingMode s) g m e).1 = k := hk.symm
    have hevents := inexactEvents_eq hchanged
    exact ⟨fun h => hevents ▸ delivers_value hfix (if_pos h) rfl, fun h => delivers_unspecified hfix (if_neg h),
      fun h => hevents ▸ delivers_value hfixu (if_pos h) rfl, fun h => delivers_unspecified hfixu (if_neg h)⟩

/-- Settles O58: the integer is its own exact value, of 64 bits at most. -/
theorem fixToFloat : Obligations.FixToFloat := by
  intro s x z p hp
  obtain ⟨hflot, hsflot, hsmall⟩ : exec p.1 s = deliver s x (Machine.fixToFloat (roundingMode s) p.2.2) ∧
      exec p.2.1 s = deliver s x (fixToShort (roundingMode s) p.2.2) ∧ p.2.2.natAbs < 2 ^ 64 := by
    simp only [List.mem_cons, List.not_mem_nil, or_false] at hp
    rcases hp with rfl | rfl | rfl | rfl
    · refine ⟨rfl, rfl, ?_⟩
      have := BitVec.toInt_lt (x := reg s z)
      have := BitVec.le_toInt (x := reg s z)
      dsimp only
      omega
    · rw [← imm_toInt]
      refine ⟨rfl, rfl, ?_⟩
      have := z.isLt
      dsimp only
      rw [imm_toInt]
      omega
    · exact ⟨rfl, rfl, (reg s z).isLt⟩
    · rw [← imm_toNat]
      exact ⟨rfl, rfl, (imm z).isLt⟩
  generalize p.2.2 = n at *
  refine ⟨fun h => ⟨delivers_value hflot (if_pos h) rfl, delivers_value hsflot (if_pos h) rfl⟩, fun h => ⟨?_, ?_⟩⟩
  · have hneg := exactOfInt_neg n 0
    have hstands := exactOfInt_standsFor h 0
    simp only [zpow_zero, mul_one, Int.cast_lt_zero] at hneg hstands
    exact ⟨_, hneg, hstands, delivers_rounded hflot (if_neg h)⟩
  · have hlog : (exactOfInt n 0).mant.log2 < 64 := (Nat.log2_lt (Int.natAbs_ne_zero.mpr h)).mpr hsmall
    obtain ⟨t, m, hlo, hhi, hround, d, hd, hvalue⟩ := roundedShort_spec (roundingMode s) (v := exactOfInt n 0)
      (q := |(n : Rat)|) (Int.natAbs_ne_zero.mpr h) (by rw [exactOfInt_magnitude]; simp) (by simp [exactOfInt])
      (by simp only [exactOfInt] at *; omega)
    exact ⟨t, m, hlo, hhi, hround, delivers_value hsflot ((if_neg h).trans hd) hvalue⟩

end Sys2Proof

namespace Sys2Proof.Machine

/-! ## Integer arithmetic, comparison and shifts (41_integer_arithmetic.md) -/

/-! ### Endings -/

theorem writesReg_of_result {i : Instr} {s : State} {x : Byte} {v : Octa} (hi : exec i s = result s x v) :
    ∃ t, exec i s = .next t ∧ WritesReg s t x v [] [] :=
  hi ▸ result_eq s x v

/-- As `writesReg_of_result`, for the instructions that also write the special register n (rH, rR). -/
theorem writesReg_of_setSpecial {i : Instr} {s : State} {x : Byte} {v w : Octa} {n : Fin 32}
    (hi : exec i s = result (setSpecial s n w) x v) (hn : rA ∉ [n] ∧ rG ∉ [n]) :
    ∃ t, exec i s = .next t ∧ WritesReg s t x v [] [n] ∧ special t n = w := by
  obtain ⟨t, ht, hw, hspecial⟩ := resultWith_writes (s := s) (u := setSpecial s n w) (es := []) (ns := [n]) x v rfl rfl
    rfl rfl rfl rfl hn (fun m hm => special_setSpecial_ne s w (by simpa using hm)) (fun _ he => by simp at he)
  exact ⟨t, hi.trans ht, hw, (hspecial n (List.mem_singleton_self n)).trans (special_setSpecial_same s n w)⟩

theorem delivers_resultWith {i : Instr} {s : State} {x : Byte} {v : Octa} {es : List Event}
    (hi : exec i s = resultWith s x v es) : Delivers i s x (fun w => w = v) es :=
  delivers_of_resultWith hi rfl rfl rfl rfl rfl rfl rfl (by decide) (fun _ _ => rfl) (fun _ _ => trivial)

theorem overflowEvents_eq (r : Int) : overflowEvents r = overflowOf 64 r := by
  have : overflows 64 r = true ↔ ¬ (-(2 ^ (64 - 1)) ≤ r ∧ r ≤ 2 ^ (64 - 1) - 1) := by
    simp only [overflows, Bool.or_eq_true, decide_eq_true_eq]
    omega
  rw [overflowEvents, overflowOf, if_congr this rfl rfl, ite_not]

theorem delivers_signedResult {i : Instr} {s : State} {x : Byte} {r : Int} (hi : exec i s = signedResult s x r) :
    Delivers i s x (fun v => v = BitVec.ofInt 64 r) (overflowOf 64 r) :=
  overflowEvents_eq r ▸ delivers_resultWith hi

/-- Z is a register number in the first form of an instruction and a byte in the second (30_encoding.md R93). -/
theorem exec_of_forms {i j : Instr} {s : State} {z : Byte} {f : Octa → StepResult} {p : Instr × Octa}
    (hp : p ∈ [(i, reg s z), (j, z.setWidth 64)]) (hi : exec i s = f (reg s z)) (hj : exec j s = f (imm z)) :
    exec p.1 s = f p.2 := by
  simp only [List.mem_cons, List.not_mem_nil, or_false] at hp
  rcases hp with rfl | rfl
  · exact hi
  · exact hj

/-! ### Sums and differences -/

theorem ofInt_toNat (v : Octa) : BitVec.ofInt 64 v.toNat = v := by
  rw [BitVec.ofInt_natCast, BitVec.ofNat_toNat, BitVec.setWidth_eq]

theorem add_eq_ofInt (y z : Octa) : y + z = BitVec.ofInt 64 (y.toNat + z.toNat) := by
  rw [BitVec.ofInt_add, ofInt_toNat, ofInt_toNat]

theorem sub_eq_ofInt (y z : Octa) : y - z = BitVec.ofInt 64 (y.toNat - z.toNat) := by
  rw [Int.sub_eq_add_neg, BitVec.ofInt_add, BitVec.ofInt_neg, ofInt_toNat, ofInt_toNat, BitVec.sub_eq_add_neg]

theorem addScaled_eq (s : State) (x : Byte) (k y z : Octa) :
    addScaled s x k y z = result s x (BitVec.ofInt 64 (k.toNat * y.toNat + z.toNat)) := by
  rw [BitVec.ofInt_add, BitVec.ofInt_mul, ofInt_toNat, ofInt_toNat, ofInt_toNat, addScaled]

/-- Settles O22: each instruction ends in `signedResult` of its exact result. -/
theorem signedArithmetic : Obligations.SignedArithmetic := by
  intro s x y z p hp
  have hexec : exec p.1 s = signedResult s x p.2 := by
    simp only [← imm_toInt, List.mem_cons, List.not_mem_nil, or_false] at hp
    rcases hp with rfl | rfl | rfl | rfl | rfl | rfl | rfl <;> rfl
  exact delivers_signedResult hexec

/-- Settles O23: the sums and differences of octas are those of integers modulo 2^64. -/
theorem unsignedArithmetic : Obligations.UnsignedArithmetic := by
  intro s x y z p hp
  have hexec : exec p.1 s = result s x (BitVec.ofInt 64 p.2) := by
    simp only [← imm_toNat, List.mem_cons, List.not_mem_nil, or_false] at hp
    rcases hp with rfl | rfl | rfl | rfl | rfl | rfl | rfl | rfl | rfl | rfl | rfl | rfl
    · exact congrArg (result s x) (add_eq_ofInt _ _)
    · exact congrArg (result s x) (add_eq_ofInt _ _)
    · exact congrArg (result s x) (sub_eq_ofInt _ _)
    · exact congrArg (result s x) (sub_eq_ofInt _ _)
    all_goals exact addScaled_eq ..
  exact writesReg_of_result hexec

/-- Settles O24: NEGI takes the difference of integers, NEGU and NEGUI that of octas. -/
theorem negateWithoutEvents : Obligations.NegateWithoutEvents := by
  intro s x y z p hp
  have hexec : exec p.1 s = result s x (BitVec.ofInt 64 p.2) := by
    simp only [List.mem_cons, List.not_mem_nil, or_false] at hp
    rcases hp with rfl | rfl | rfl
    · rw [← imm_toInt, ← imm_toInt]; rfl
    · rw [← imm_toNat y]; exact congrArg (result s x) (sub_eq_ofInt _ _)
    · rw [← imm_toNat y, ← imm_toNat z]; exact congrArg (result s x) (sub_eq_ofInt _ _)
  exact writesReg_of_result hexec

/-! ### Products and quotients -/

/-- Settles O25: the product of two octas is below 2^128, so its high half fits rH. -/
theorem multiplyUnsigned : Obligations.MultiplyUnsigned := by
  intro s x y z p hp
  have hexec : exec p.1 s = mulUnsigned s x (reg s y) p.2 := exec_of_forms hp rfl rfl
  obtain ⟨t, ht, hw, hH⟩ := writesReg_of_setSpecial hexec (by decide)
  have ⟨_, _, _, hevents, _⟩ := hw
  refine ⟨t, _, ht, hw, hevents, ?_⟩
  have hlt : (reg s y).toNat * p.2.toNat < 2 ^ 64 * 2 ^ 64 := Nat.mul_lt_mul'' (reg s y).isLt p.2.isLt
  rw [hH, BitVec.toNat_ofNat, BitVec.toNat_ofNat, Nat.mod_eq_of_lt (Nat.div_lt_of_lt_mul hlt), Nat.mod_add_div]

theorem divide_zero {y z : Octa} (hz : z = 0) : divide y z = (0, y, [.D]) :=
  if_pos hz

theorem eq_of_toInt_eq_minimum {y : Octa} (h : y.toInt = -2 ^ 63) : y = 0x8000000000000000 :=
  BitVec.eq_of_toInt_eq (h.trans (by decide))

theorem eq_of_toInt_eq_neg_one {z : Octa} (h : z.toInt = -1) : z = 0xFFFFFFFFFFFFFFFF :=
  BitVec.eq_of_toInt_eq (h.trans (by decide))

theorem divide_overflow {y z : Octa} (hy : y.toInt = -2 ^ 63) (hz : z.toInt = -1) :
    divide y z = (0x8000000000000000, 0, [.V]) := by
  rw [eq_of_toInt_eq_minimum hy, eq_of_toInt_eq_neg_one hz]
  rfl

theorem divide_floor {y z : Octa} (hz : z ≠ 0) (h : ¬ (y.toInt = -2 ^ 63 ∧ z.toInt = -1)) :
    divide y z = (BitVec.ofInt 64 (y.toInt.fdiv z.toInt), BitVec.ofInt 64 (y.toInt.fmod z.toInt), []) := by
  rw [divide, if_neg hz, if_neg]
  rintro ⟨rfl, rfl⟩
  exact h (by decide)

/-- The remainder of a floor division is zero or of the sign of the divisor, and smaller (41_integer_arithmetic.md
R164). -/
theorem fdiv_fmod_spec (a : Int) {b : Int} (hb : b ≠ 0) :
    a = a.fdiv b * b + a.fmod b ∧ (0 ≤ a.fmod b ∧ a.fmod b < b ∨ b < a.fmod b ∧ a.fmod b ≤ 0) := by
  refine ⟨(Int.fdiv_mul_add_fmod a b).symm, ?_⟩
  rcases Int.lt_or_gt_of_ne hb with hneg | hpos
  · obtain ⟨-, hbounds⟩ := (Int.fdiv_fmod_unique' hneg).mp ⟨rfl, rfl⟩
    exact .inr hbounds
  · exact .inl ⟨Int.fmod_nonneg_of_pos a hpos, Int.fmod_lt_of_pos a hpos⟩

theorem delivers_divSigned {i : Instr} {s : State} {x : Byte} {y z q r : Octa} {es : List Event}
    (hi : exec i s = divSigned s x y z) (h : divide y z = (q, r, es)) :
    Delivers i s x (fun v => v = q) es [rR] (fun t => special t rR = r) := by
  rw [divSigned, h] at hi
  exact delivers_of_resultWith (u := setSpecial s rR r) hi rfl rfl rfl rfl rfl rfl rfl (by decide)
    (fun n hn => special_setSpecial_ne s r (by simpa using hn))
    (fun t ht => (ht rR (List.mem_singleton_self rR)).trans (special_setSpecial_same s rR r))

/-- Settles O26 by the three cases of `divide`. -/
theorem divideSigned : Obligations.DivideSigned := by
  intro s x y z p hp
  have hexec : exec p.1 s = divSigned s x (reg s y) p.2 := exec_of_forms hp rfl rfl
  refine ⟨fun hz => delivers_divSigned hexec (divide_zero hz),
    fun hy hz => delivers_divSigned hexec (divide_overflow hy hz), fun hz h => ?_⟩
  have hne : p.2.toInt ≠ 0 := fun h0 => hz (BitVec.eq_of_toInt_eq h0)
  obtain ⟨hsum, hbounds⟩ := fdiv_fmod_spec (reg s y).toInt hne
  exact ⟨_, _, hsum, hbounds, delivers_divSigned hexec (divide_floor hz h)⟩

/-- The quotient of a dividend whose high half is below the divisor fits 64 bits, and so does the remainder
(41_integer_arithmetic.md R171). -/
theorem divideUnsigned_of_lt {d y z : Octa} (h : d.toNat < z.toNat) :
    d.toNat * 2 ^ 64 + y.toNat = (divideUnsigned d y z).1.toNat * z.toNat + (divideUnsigned d y z).2.toNat ∧
      (divideUnsigned d y z).2.toNat < z.toNat := by
  have hy := y.isLt
  have hz := z.isLt
  have hquotient : (d.toNat * 2 ^ 64 + y.toNat) / z.toNat < 2 ^ 64 := Nat.div_lt_of_lt_mul (by omega)
  have hremainder : (d.toNat * 2 ^ 64 + y.toNat) % z.toNat < z.toNat := Nat.mod_lt _ (by omega)
  rw [divideUnsigned, if_pos h, BitVec.toNat_ofNat, BitVec.toNat_ofNat, Nat.mod_eq_of_lt hquotient,
    Nat.mod_eq_of_lt (hremainder.trans hz), Nat.div_add_mod']
  exact ⟨rfl, hremainder⟩

theorem divideUnsigned_of_le {d y z : Octa} (h : z.toNat ≤ d.toNat) : divideUnsigned d y z = (d, y) :=
  if_neg h.not_gt

/-! ### Comparisons -/

theorem compareSigned_eq (s : State) (x : Byte) (y z : Octa) :
    compareSigned s x y z =
      result s x (if y.toInt < z.toInt then 0xFFFFFFFFFFFFFFFF else if y.toInt > z.toInt then 1 else 0) := by
  simp only [compareSigned, verdict, decide_eq_true_eq, gt_iff_lt]

theorem compareUnsigned_eq (s : State) (x : Byte) (y z : Octa) :
    compareUnsigned s x y z =
      result s x (if y.toNat < z.toNat then 0xFFFFFFFFFFFFFFFF else if y.toNat > z.toNat then 1 else 0) := by
  simp only [compareUnsigned, verdict, decide_eq_true_eq, gt_iff_lt]

/-- Settles O28: both comparisons end in a verdict on their operands. -/
theorem comparisons : Obligations.Comparisons := by
  intro s x y z p hp
  have hexec : exec p.1 s = result s x p.2 := by
    simp only [List.mem_cons, List.not_mem_nil, or_false] at hp
    rcases hp with rfl | rfl | rfl | rfl
    · exact compareSigned_eq ..
    · rw [← imm_toInt]; exact compareSigned_eq ..
    · exact compareUnsigned_eq ..
    · rw [← imm_toNat]; exact compareUnsigned_eq ..
  exact writesReg_of_result hexec

/-! ### Shifts -/

theorem shiftLeft_of_le {s : State} {x : Byte} {y n : Octa} (h : 64 ≤ n.toNat) :
    shiftLeft s x y n = resultWith s x 0 (if y.toInt = 0 then [] else [.V]) := by
  have hzero : y.toInt = 0 ↔ y = 0 := BitVec.toInt_inj (y := 0)
  rw [shiftLeft, if_pos h, if_congr hzero rfl rfl]

theorem shiftLeft_of_lt {s : State} {x : Byte} {y n : Octa} (h : n.toNat < 64) :
    shiftLeft s x y n = signedResult s x (y.toInt * 2 ^ n.toNat) :=
  if_neg h.not_ge

/-- Settles O29 by the two cases of `shiftLeft`. -/
theorem shiftLeftSigned : Obligations.ShiftLeftSigned := by
  intro s x y z p hp
  have hexec : exec p.1 s = shiftLeft s x (reg s y) p.2 := exec_of_forms hp rfl rfl
  exact ⟨fun h => delivers_resultWith (hexec.trans (shiftLeft_of_le h)),
    fun h => delivers_signedResult (hexec.trans (shiftLeft_of_lt h))⟩

/-- The divisor 2^n is positive, so `Int.fdiv` and `/` are the same floor (41_integer_arithmetic.md R201). -/
theorem shiftRight_eq (s : State) (x : Byte) (y n : Octa) :
    shiftRight s x y n = result s x (if 64 ≤ n.toNat then (if y.toInt < 0 then 0xFFFFFFFFFFFFFFFF else 0)
      else BitVec.ofInt 64 (y.toInt / 2 ^ n.toNat)) := by
  rw [shiftRight, Int.fdiv_eq_ediv_of_nonneg _ (by positivity)]

/-- Settles O30: SLU and SRU as they are defined, SR by the floor of `shiftRight_eq`. -/
theorem otherShifts : Obligations.OtherShifts := by
  intro s x y z p hp
  have hexec : exec p.1 s = result s x p.2 := by
    simp only [← imm_toNat, List.mem_cons, List.not_mem_nil, or_false] at hp
    rcases hp with rfl | rfl | rfl | rfl | rfl | rfl
    · rfl
    · rfl
    · exact shiftRight_eq ..
    · exact shiftRight_eq ..
    · rfl
    · rfl
  exact writesReg_of_result hexec

end Sys2Proof.Machine

namespace Sys2Proof

open Machine

/-- Settles O27 by the two cases of `Machine.divideUnsigned`, whose name the statement shares. -/
theorem divideUnsigned : Obligations.DivideUnsigned := by
  intro s x y z p hp
  have hexec : exec p.1 s = divUnsigned s x (reg s y) p.2 := exec_of_forms hp rfl rfl
  obtain ⟨t, ht, hw, hR⟩ := writesReg_of_setSpecial hexec (by decide)
  refine ⟨t, _, ht, hw, fun h => hR ▸ divideUnsigned_of_lt h, fun h => ?_⟩
  rw [hR, divideUnsigned_of_le h]
  exact ⟨rfl, rfl⟩

end Sys2Proof

namespace Sys2Proof.Machine

/-! ## Branches (42_branches.md) -/

/-- Neither outcome of the condition touches more of the state than the pc (42_branches.md R213). -/
theorem branch_eq (s : State) (c : Cond) (x : Byte) (target : Octa) :
    branch s c x target = .next { s with pc := if c.holds (reg s x) then target else s.pc + 4 } := by
  unfold branch
  split <;> rfl

theorem four_mul_yz_eq (yz : Wyde) : 4 * yz.setWidth 64 = BitVec.ofNat 64 (4 * yz.toNat) := by
  rw [BitVec.ofNat_mul, BitVec.ofNat_toNat]
  rfl

theorem forward_eq (s : State) (yz : Wyde) : forward s yz = s.pc + BitVec.ofNat 64 (4 * yz.toNat) := by
  rw [forward, four_mul_yz_eq]

/-- The offset of a backward target is negative, so it is an integer modulo 2^64 (42_branches.md R211). -/
theorem backward_eq (s : State) (yz : Wyde) :
    backward s yz = s.pc + BitVec.ofInt 64 (4 * yz.toNat - 262144) := by
  have hoffset : BitVec.ofInt 64 (4 * yz.toNat - 262144) = BitVec.ofNat 64 (4 * yz.toNat) - 262144 := by
    rw [Int.sub_eq_add_neg, BitVec.ofInt_add, BitVec.sub_eq_add_neg]
    rfl
  rw [backward, four_mul_yz_eq, hoffset, BitVec.sub_eq_add_neg, BitVec.sub_eq_add_neg, BitVec.add_assoc]

/-- Settles O31: a row of four instructions shares one condition, and a probable branch is its branch
(42_branches.md R212). -/
theorem branches : Obligations.Branches := by
  intro s x yz p hp
  obtain ⟨c, hcond, hforward, hbackward, hprobable, hprobableBack⟩ : ∃ c : Cond,
      p.2.2.2.2 = c.holds (reg s x) ∧ exec p.1 s = branch s c x (forward s yz) ∧
      exec p.2.1 s = branch s c x (backward s yz) ∧ exec p.2.2.1 s = exec p.1 s ∧
      exec p.2.2.2.1 s = exec p.2.1 s := by
    simp only [List.mem_cons, List.not_mem_nil, or_false] at hp
    rcases hp with rfl | rfl | rfl | rfl | rfl | rfl | rfl | rfl
    · exact ⟨.neg, rfl, rfl, rfl, rfl, rfl⟩
    · exact ⟨.zero, rfl, rfl, rfl, rfl, rfl⟩
    · exact ⟨.pos, rfl, rfl, rfl, rfl, rfl⟩
    · exact ⟨.odd, rfl, rfl, rfl, rfl, rfl⟩
    · exact ⟨.nonNeg, rfl, rfl, rfl, rfl, rfl⟩
    · exact ⟨.nonZero, rfl, rfl, rfl, rfl, rfl⟩
    · exact ⟨.nonPos, rfl, rfl, rfl, rfl, rfl⟩
    · exact ⟨.even, rfl, rfl, rfl, rfl, rfl⟩
  rw [hcond, ← forward_eq, ← backward_eq]
  exact ⟨hforward.trans (branch_eq ..), hbackward.trans (branch_eq ..), hprobable, hprobableBack⟩

end Sys2Proof.Machine

namespace Sys2Proof.Machine

/-! ## Conditional sets (43_conditional.md) -/

theorem condSet_of_holds {s : State} {c : Cond} {x : Byte} {y v : Octa} (h : c.holds y = true) :
    condSet s c x y v = result s x v :=
  if_pos h

/-- Where the condition fails, x[X] is not written at all (43_conditional.md R251). -/
theorem condSet_of_not_holds {s : State} {c : Cond} {x : Byte} {y v : Octa} (h : c.holds y = false) :
    condSet s c x y v = .next (advance s) :=
  if_neg (Bool.eq_false_iff.mp h)

/-- Settles O32: a conditional set and the zero-or-set of its row share the condition and the third operand
(43_conditional.md R250). -/
theorem conditionalSets : Obligations.ConditionalSets := by
  intro s x y z p hp
  obtain ⟨c, hcond, hset, hzeroOrSet⟩ : ∃ c : Cond, p.2.2.1 = c.holds (reg s y) ∧
      exec p.1 s = condSet s c x (reg s y) p.2.2.2 ∧
      exec p.2.1 s = zeroOrSet s c x (reg s y) p.2.2.2 := by
    simp only [List.mem_cons, List.not_mem_nil, or_false] at hp
    rcases hp with rfl | rfl | rfl | rfl | rfl | rfl | rfl | rfl | rfl | rfl | rfl | rfl | rfl | rfl | rfl | rfl
    · exact ⟨.neg, rfl, rfl, rfl⟩
    · exact ⟨.neg, rfl, rfl, rfl⟩
    · exact ⟨.zero, rfl, rfl, rfl⟩
    · exact ⟨.zero, rfl, rfl, rfl⟩
    · exact ⟨.pos, rfl, rfl, rfl⟩
    · exact ⟨.pos, rfl, rfl, rfl⟩
    · exact ⟨.odd, rfl, rfl, rfl⟩
    · exact ⟨.odd, rfl, rfl, rfl⟩
    · exact ⟨.nonNeg, rfl, rfl, rfl⟩
    · exact ⟨.nonNeg, rfl, rfl, rfl⟩
    · exact ⟨.nonZero, rfl, rfl, rfl⟩
    · exact ⟨.nonZero, rfl, rfl, rfl⟩
    · exact ⟨.nonPos, rfl, rfl, rfl⟩
    · exact ⟨.nonPos, rfl, rfl, rfl⟩
    · exact ⟨.even, rfl, rfl, rfl⟩
    · exact ⟨.even, rfl, rfl, rfl⟩
  rw [hcond]
  exact ⟨fun h => writesReg_of_result (hset.trans (condSet_of_holds h)),
    fun h => ⟨advance s, hset.trans (condSet_of_not_holds h), next_onlyPc s⟩,
    writesReg_of_result hzeroOrSet⟩

end Sys2Proof.Machine

namespace Sys2Proof.Machine

/-! ## Loads (44_loads.md) -/

/-- Both forms of a load end alike, each at its own address (44_loads.md R290). -/
theorem exec_of_address_forms {i j : Instr} {s : State} {y z : Byte} {f : Octa → StepResult}
    (hi : exec i s = f (addrReg s y z)) (hj : exec j s = f (addrImm s y z)) :
    ∀ q ∈ ([(i, reg s y + reg s z), (j, reg s y + z.setWidth 64)] : List (Instr × Octa)), exec q.1 s = f q.2 :=
  List.forall_mem_cons.mpr ⟨hi, List.forall_mem_singleton.mpr hj⟩

/-! ### Integer loads -/

/-- Two's complement of n bytes (44_loads.md R292). -/
theorem signExtend_eq {n u : Nat} (hn : 0 < n) (hu : u < 256 ^ n) :
    signExtend n u = BitVec.ofInt 64 (if (u : Int) < 2 ^ (8 * n - 1) then (u : Int) else u - 2 ^ (8 * n)) := by
  have bytes : u < 2 ^ (8 * n) := by rwa [Nat.pow_mul]
  have halves : 2 ^ (8 * n) = 2 * 2 ^ (8 * n - 1) := by rw [← Nat.pow_succ']; congr 1; omega
  have signBit : 2 * u < 2 ^ (8 * n) ↔ (u : Int) < 2 ^ (8 * n - 1) := by
    rw [halves, Nat.mul_lt_mul_left two_pos]
    exact_mod_cast Iff.rfl
  rw [signExtend, BitVec.signExtend, BitVec.toInt_eq_toNat_cond, BitVec.toNat_ofNat, Nat.mod_eq_of_lt bytes,
    if_congr signBit rfl rfl]
  push_cast
  rfl

theorem zeroExtend_eq (u : Nat) : zeroExtend u = BitVec.ofInt 64 u :=
  (BitVec.ofInt_natCast 64 u).symm

theorem highTetra_eq (u : Nat) : BitVec.ofNat 64 (u * 2 ^ 32) = BitVec.ofInt 64 (u * 2 ^ 32) := by
  rw [← BitVec.ofInt_natCast]
  push_cast
  rfl

/-- Settles O33: both instructions of a row end in `load` with one extension of the bytes, which gives the number of the
row for every value of the bytes (44_loads.md R292, R312). -/
theorem integerLoads : Obligations.IntegerLoads := by
  intro s x y z p hp q hq B hB hread
  obtain ⟨f, hvalue, hreg, himm⟩ : ∃ f : Nat → Octa,
      (∀ u < 256 ^ p.2.2.1, f u = BitVec.ofInt 64 (p.2.2.2 u)) ∧
      exec p.1 s = load s x (addrReg s y z) p.2.2.1 f ∧ exec p.2.1 s = load s x (addrImm s y z) p.2.2.1 f := by
    simp only [List.mem_cons, List.not_mem_nil, or_false] at hp
    rcases hp with rfl | rfl | rfl | rfl | rfl | rfl | rfl | rfl | rfl <;> dsimp only
    · exact ⟨signExtend 1, fun _ => signExtend_eq one_pos, rfl, rfl⟩
    · exact ⟨zeroExtend, fun _ _ => zeroExtend_eq _, rfl, rfl⟩
    · exact ⟨signExtend 2, fun _ => signExtend_eq two_pos, rfl, rfl⟩
    · exact ⟨zeroExtend, fun _ _ => zeroExtend_eq _, rfl, rfl⟩
    · exact ⟨signExtend 4, fun _ => signExtend_eq four_pos, rfl, rfl⟩
    iterate 3 exact ⟨zeroExtend, fun _ _ => zeroExtend_eq _, rfl, rfl⟩
    · exact ⟨_, fun _ _ => highTetra_eq _, rfl, rfl⟩
  have hexec : exec q.1 s = load s x q.2 p.2.2.1 f :=
    exec_of_address_forms (f := fun A => load s x A p.2.2.1 f) hreg himm q hq
  rw [hexec, ← hvalue _ (Memory.readNat_lt ..)]
  exact load_eq x f hB hread

/-! ### Short floats -/

/-- A pattern whose bits 62:52 are 1 and whose bits 51:0 are not all 0 is a NaN (40_floating_point.md R130). -/
theorem isNaN_unpackDouble {v : Octa} (ones : v.extractLsb' 52 11 = 0x7FF) (nonzero : v.extractLsb' 0 52 ≠ 0) :
    (unpackDouble v).isNaN = true := by
  have field : v.toNat % 2 ^ 63 / 2 ^ 52 = 2047 := by
    have : v.toNat / 2 ^ 52 % 2 ^ 11 = 0x7FF := by
      simpa [Nat.shiftRight_eq_div_pow] using congrArg BitVec.toNat ones
    omega
  have fraction : v.toNat % 2 ^ 63 % 2 ^ 52 ≠ 0 := by
    have : v.toNat % 2 ^ 52 ≠ 0 := fun h => nonzero (BitVec.eq_of_toNat_eq (by simpa using h))
    omega
  simp [unpackDouble, unpack, unpackMagnitude, show signWeight doubleFormat = 2 ^ 63 from rfl,
    show doubleFormat.fracBits = 52 from rfl, show doubleFormat.maxField = 2047 from rfl, -Nat.reducePow,
    field, fraction, Fp.isNaN]

/-- The fraction of the free value is kept unless it is 0, where a quiet NaN is given (log entry 13). -/
theorem isNaN_unpackDouble_nanOf (free : Octa) : (unpackDouble (nanOf free)).isNaN = true := by
  unfold nanOf
  split
  · rw [unpackDouble_quietNaNOf]
    rfl
  · rename_i hfree
    have fraction : (free &&& 0x800FFFFFFFFFFFFF ||| 0x7FF0000000000000).extractLsb' 0 52 = free.extractLsb' 0 52 := by
      rw [BitVec.extractLsb'_or, BitVec.extractLsb'_and,
        show BitVec.extractLsb' 0 52 (0x800FFFFFFFFFFFFF : Octa) = .allOnes 52 from rfl,
        show BitVec.extractLsb' 0 52 (0x7FF0000000000000 : Octa) = 0#52 from rfl, BitVec.and_allOnes, BitVec.or_zero]
    refine isNaN_unpackDouble (by simp [BitVec.extractLsb'_or, BitVec.extractLsb'_and]) fun h => hfree ?_
    have low : free.toNat % 2 ^ 52 = 0 := by simpa using congrArg BitVec.toNat (fraction.symm.trans h)
    exact BitVec.eq_of_toNat_eq ((Nat.and_two_pow_sub_one_eq_mod free.toNat 52).trans low)

/-- x[X] takes what fp_from_short gives, or a NaN drawn from the free values (log entry 13). -/
theorem loadShort_eq {s : State} {A B : Octa} (x : Byte) (h : UsesAddress s A 4 B) (hp : Permitted s .read B 4) :
    ∃ t, loadShort s x A = .next t ∧
      WritesReg s t x ((fromShort (Memory.readNat s.memory B.toNat 4)).getD (nanOf (anyValue s))) [] [] := by
  simp only [loadShort, memRead_ok h hp]
  cases fromShort (Memory.readNat s.memory B.toNat 4) with
  | none => exact resultAny_eq x nanOf (fun _ he => by simp at he)
  | some d => exact result_eq s x d

/-- Settles O35: `loadShort_eq` says what x[X] holds in both cases of fp_from_short. -/
theorem shortFloatLoads : Obligations.ShortFloatLoads := by
  intro s x y z p hp B hB hread
  have hexec : exec p.1 s = loadShort s x p.2 := exec_of_address_forms rfl rfl p hp
  obtain ⟨t, ht, hw⟩ := loadShort_eq x hB hread
  refine ⟨t, _, hexec.trans ht, hw, fun hnone => ?_, fun d hd => ?_⟩
  · rw [hnone]
    exact isNaN_unpackDouble_nanOf _
  · rw [hd]
    rfl

end Sys2Proof.Machine

namespace Sys2Proof.Machine

/-! ## Stores (45_stores.md) -/

/-- How a store of the n bytes of v at the address a ends, from s: with a next state where none of the events es is
enabled, else with the fault of the first enabled one (60_exceptions.md R472). -/
def EndsInStore (r : StepResult) (s : State) (a n v : Nat) (es : List Event) : Prop :=
  (NoneEnabled s es → ∃ t, r = .next t ∧ StoresBytes s t a n v es) ∧
    ∀ first e rest, es = first ++ e :: rest → NoneEnabled s first → enabled s e = true →
      r = .fault (.tripUnsupported e)

/-- The bytes are written before the events are handed over (60_exceptions.md R474). -/
theorem endsInStore_store {s : State} {A B : Octa} {n : Nat} (v : Nat) (es : List Event) (hm : Memory.wf s.memory)
    (hn : n ∣ 2 ^ 64) (hB : UsesAddress s A n B) (hp : Permitted s .write B n) :
    EndsInStore (store s A n v es) s B.toNat n v es := by
  refine ⟨store_eq v hm hn hB hp, fun first e rest hes hfirst he => ?_⟩
  simp only [store, memWrite_ok v hB hp, hes]
  exact finish_fault ((noneEnabled_congr rfl).mpr hfirst) ((enabled_congr rfl e).trans he)

/-! ### Integer stores -/

theorem narrowEvents_eq (n : Nat) (v : Octa) : narrowEvents n v = overflowOf (8 * n) v.toInt := by
  have outside : overflows (8 * n) v.toInt = true ↔
      ¬ (-(2 ^ (8 * n - 1)) ≤ v.toInt ∧ v.toInt ≤ 2 ^ (8 * n - 1) - 1) := by
    simp only [overflows, Bool.or_eq_true, decide_eq_true_eq]
    omega
  rw [narrowEvents, overflowOf, if_congr outside rfl rfl, ite_not]

theorem storeSigned_eq (s : State) (x : Byte) (A : Octa) (n : Nat) :
    storeSigned s x A n = store s A n ((reg s x).toNat % 2 ^ (8 * n)) (overflowOf (8 * n) (reg s x).toInt) :=
  congrArg _ (narrowEvents_eq n _)

/-- The event V of a signed result comes alone. -/
theorem eq_singleton_of_mem_overflowOf {n : Nat} {r : Int} {e : Event} (h : e ∈ overflowOf n r) :
    overflowOf n r = [e] := by
  unfold overflowOf at h ⊢
  split at h
  · cases h
  · rw [if_neg ‹_›, List.mem_singleton.mp h]

/-- Settles O37: both instructions of a row end in the `store` of the row's size, number and events, of which there is
at most one. -/
theorem integerStores : Obligations.IntegerStores := by
  intro s x y z hmem p hp q hq B hB hwrite
  obtain ⟨hsize, hsingle, hreg, himm⟩ : p.2.2.1 ∣ 2 ^ 64 ∧ (∀ e ∈ p.2.2.2.2, p.2.2.2.2 = [e]) ∧
      exec p.1 s = store s (addrReg s y z) p.2.2.1 p.2.2.2.1 p.2.2.2.2 ∧
      exec p.2.1 s = store s (addrImm s y z) p.2.2.1 p.2.2.2.1 p.2.2.2.2 := by
    have noEvents : ∀ e ∈ ([] : List Event), [] = [e] := fun e he => by cases he
    simp only [List.mem_cons, List.not_mem_nil, or_false] at hp
    rcases hp with rfl | rfl | rfl | rfl | rfl | rfl | rfl | rfl | rfl | rfl <;> dsimp only
    -- STB, STBU, STW, STWU, STT, STTU
    iterate 3
      · exact ⟨by norm_num, fun _ => eq_singleton_of_mem_overflowOf, storeSigned_eq .., storeSigned_eq ..⟩
      · exact ⟨by norm_num, noEvents, rfl, rfl⟩
    -- STO, STOU, STHT, STCO
    iterate 4 exact ⟨by norm_num, noEvents, rfl, rfl⟩
  have hexec : exec q.1 s = store s q.2 p.2.2.1 p.2.2.2.1 p.2.2.2.2 :=
    exec_of_address_forms (f := fun A => store s A p.2.2.1 p.2.2.2.1 p.2.2.2.2) hreg himm q hq
  obtain ⟨hnext, hfault⟩ := endsInStore_store p.2.2.2.1 p.2.2.2.2 hmem hsize hB hwrite
  rw [hexec]
  exact ⟨hnext, fun e he => hfault [] e [] (hsingle e he) (fun _ h => by cases h)⟩

/-! ### Short floats -/

/-- An exponent field of ones and a fraction that is not 0 are a NaN (40_floating_point.md R130, R133). -/
theorem isNaN_unpackMagnitude {f : FloatFormat} {neg : Bool} {fraction : Nat} (h0 : fraction ≠ 0)
    (h : fraction < 2 ^ f.fracBits) : (unpackMagnitude f neg (infinityBits f + fraction)).isNaN = true := by
  have hfield : (infinityBits f + fraction) / 2 ^ f.fracBits = f.maxField := by
    rw [infinityBits, Nat.mul_comm, Nat.mul_add_div (Nat.two_pow_pos _), Nat.div_eq_of_lt h, Nat.add_zero]
  have hfraction : (infinityBits f + fraction) % 2 ^ f.fracBits = fraction := by
    rw [infinityBits, Nat.mul_comm, Nat.mul_add_mod, Nat.mod_eq_of_lt h]
  simp [unpackMagnitude, hfield, hfraction, h0, Fp.isNaN]

theorem infinityBits_shortFormat : infinityBits shortFormat = 0x7F800000 := rfl

theorem signWeight_shortFormat : signWeight shortFormat = 2 ^ 31 := rfl

/-- The sign is bit 31 of the free value; the fraction is that of the free value, or bit 22 alone where that is 0 (log
entry 13). -/
theorem shortNanOf_eq (free : Octa) : ∃ (neg : Bool) (fraction : Nat), fraction ≠ 0 ∧ fraction < 2 ^ 23 ∧
    shortNanOf free = packBits shortFormat neg (infinityBits shortFormat + fraction) := by
  have packed (fraction : Nat) : packBits shortFormat (decide (free.toNat % 2 ^ 32 / 2 ^ 31 = 1))
      (infinityBits shortFormat + fraction) = free.toNat % 2 ^ 32 / 2 ^ 31 * 2 ^ 31 + 0x7F800000 + fraction := by
    simp only [packBits, decide_eq_true_eq, infinityBits_shortFormat, signWeight_shortFormat]
    split <;> omega
  by_cases h : free.toNat % 2 ^ 32 % 2 ^ 23 = 0
  · exact ⟨_, 0x400000, by decide, by decide, (if_pos h).trans ((packed 0x400000).trans (Nat.add_assoc ..)).symm⟩
  · exact ⟨_, _, h, Nat.mod_lt _ (by decide), (if_neg h).trans (packed _).symm⟩

theorem shortNanOf_lt (free : Octa) : shortNanOf free < 2 ^ 32 := by
  unfold shortNanOf
  dsimp only
  split <;> omega

theorem isNaN_unpack_shortNanOf (free : Octa) : (unpack shortFormat (shortNanOf free)).isNaN = true := by
  obtain ⟨neg, fraction, h0, hlt, heq⟩ := shortNanOf_eq free
  have magnitude : infinityBits shortFormat + fraction < signWeight shortFormat := by
    rw [infinityBits_shortFormat, signWeight_shortFormat]
    omega
  rw [heq, unpack_packBits magnitude]
  exact isNaN_unpackMagnitude h0 hlt

/-- Memory takes what fp_to_short gives, or a short NaN drawn from the free values (log entry 13). -/
theorem endsInStore_storeShort {s : State} {A B : Octa} (x : Byte) (hm : Memory.wf s.memory)
    (hB : UsesAddress s A 4 B) (hp : Permitted s .write B 4) :
    EndsInStore (storeShort s x A) s B.toNat 4
      ((toShort (roundingMode s) (enabled s .U) (reg s x)).1.getD (shortNanOf (anyValue s)))
      (toShort (roundingMode s) (enabled s .U) (reg s x)).2 := by
  unfold storeShort
  rcases toShort (roundingMode s) (enabled s .U) (reg s x) with ⟨_ | t, es⟩
  · exact endsInStore_store (s := drawn s) _ es hm (by norm_num) hB hp
  · exact endsInStore_store t es hm (by norm_num) hB hp

/-- Settles O38: `endsInStore_storeShort`, with what fp_to_short gives for each class of numbers. -/
theorem shortFloatStores : Obligations.ShortFloatStores := by
  intro s x y z hmem p hp B hB hwrite
  have hexec : exec p.1 s = storeShort s x p.2 := exec_of_address_forms rfl rfl p hp
  rw [hexec]
  refine ⟨_, _, ?_, endsInStore_storeShort x hmem hB hwrite⟩
  unfold toShort
  cases unpackDouble (reg s x) with
  | nan signalling => exact ⟨shortNanOf_lt _, isNaN_unpack_shortNanOf _, rfl⟩
  | inf neg => exact ⟨rfl, rfl⟩
  | fin neg m e =>
    by_cases hm : m = 0 <;> simp [hm]

end Sys2Proof.Machine

namespace Sys2Proof.Machine

/-! ## Bitwise operations, lanes and bit matrices (46_bitwise.md) -/

/-- Settles O17: each instruction ends in `result` of its value. -/
theorem orAndXorResults : Obligations.OrAndXorResults := by
  intro s x y z p hp
  have hexec : exec p.1 s = result s x p.2 := by
    simp only [List.mem_cons, List.not_mem_nil, or_false] at hp
    rcases hp with rfl | rfl | rfl | rfl | rfl | rfl | rfl | rfl <;> rfl
  exact writesReg_of_result hexec

/-- Settles O18: each instruction ends in `result` of its value, as those of `orAndXorResults` do. -/
theorem andNandNxorResults : Obligations.AndNandNxorResults := by
  intro s x y z p hp
  have hexec : exec p.1 s = result s x p.2 := by
    simp only [List.mem_cons, List.not_mem_nil, or_false] at hp
    rcases hp with rfl | rfl | rfl | rfl | rfl | rfl | rfl | rfl <;> rfl
  exact writesReg_of_result hexec

/-! ### Lanes -/

theorem lane_lt (w : Nat) (v : Octa) (i : Nat) : lane w v i < 2 ^ w :=
  Nat.mod_lt _ (Nat.two_pow_pos w)

theorem laneDifference_lt (w : Nat) (y z : Octa) (i : Nat) : lane w y i - lane w z i < 2 ^ w :=
  (Nat.sub_le ..).trans_lt (lane_lt w y i)

theorem laneDifferences_lt (w : Nat) (y z : Octa) (n : Nat) : laneDifferences w y z n < 2 ^ (w * n) := by
  induction n with
  | zero => exact Nat.two_pow_pos _
  | succ n ih =>
    calc laneDifferences w y z n + (lane w y n - lane w z n) * 2 ^ (w * n)
        < (lane w y n - lane w z n + 1) * 2 ^ (w * n) := by rw [Nat.succ_mul, Nat.add_comm]; omega
      _ ≤ 2 ^ w * 2 ^ (w * n) := Nat.mul_le_mul_right _ (laneDifference_lt w y z n)
      _ = 2 ^ (w * (n + 1)) := by rw [← Nat.pow_add, Nat.mul_succ, Nat.add_comm]

/-- A lane put above the n lowest lanes leaves those as they are, and is lane n itself. -/
theorem laneDifferences_lane (w : Nat) (y z : Octa) {n i : Nat} (hi : i < n) :
    laneDifferences w y z n / 2 ^ (w * i) % 2 ^ w = lane w y i - lane w z i := by
  induction n with
  | zero => exact absurd hi (Nat.not_lt_zero i)
  | succ n ih =>
    rw [laneDifferences]
    rcases Nat.lt_succ_iff_lt_or_eq.mp hi with hlt | rfl
    · obtain ⟨k, rfl⟩ := Nat.exists_eq_add_of_lt hlt
      have hsplit : 2 ^ (w * (i + k + 1)) = 2 ^ (w * i) * (2 ^ w * 2 ^ (w * k)) := by ring
      rw [hsplit, Nat.mul_left_comm, Nat.add_mul_div_left _ _ (Nat.two_pow_pos _), Nat.mul_left_comm,
        Nat.add_mul_mod_self_left]
      exact ih hlt
    · rw [Nat.add_mul_div_right _ _ (Nat.two_pow_pos _), Nat.div_eq_of_lt (laneDifferences_lt w y z i), Nat.zero_add]
      exact Nat.mod_eq_of_lt (laneDifference_lt w y z i)

/-- Lanes that fill the octa: none of their differences is lost. -/
theorem difference_lane {w n i : Nat} (hw : w * n = 64) (y z : Octa) (hi : i < n) :
    (difference w n y z).toNat / 2 ^ (w * i) % 2 ^ w = lane w y i - lane w z i := by
  have hlt : laneDifferences w y z n < 2 ^ 64 := hw ▸ laneDifferences_lt w y z n
  rw [difference, BitVec.toNat_ofNat, Nat.mod_eq_of_lt hlt]
  exact laneDifferences_lane w y z hi

/-! ### ODIF, MUX, SADD -/

theorem octaDifference_eq (y z : Octa) : octaDifference y z = BitVec.ofNat 64 (y.toNat - z.toNat) := by
  unfold octaDifference
  split
  case isTrue h => rw [← BitVec.toNat_sub_of_le (BitVec.le_def.mpr h.le), BitVec.ofNat_toNat, BitVec.setWidth_eq]
  case isFalse h => rw [Nat.sub_eq_zero_of_le (Nat.not_lt.mp h)]; rfl

theorem popcount_eq_countP (v : Octa) (n : Nat) : popcount v n = (List.range n).countP v.getLsbD := by
  induction n with
  | zero => rfl
  | succ n ih => rw [popcount, ih, List.range_succ, List.countP_append, List.countP_singleton]

theorem popcount_and_not (y z : Octa) :
    popcount (y &&& ~~~z) 64 = (List.range 64).countP fun i => y.getLsbD i && !z.getLsbD i := by
  rw [popcount_eq_countP]
  refine List.countP_congr fun i hi => ?_
  simp [List.mem_range.mp hi]

/-- Settles O20: MUX as it is defined, ODIF by `octaDifference_eq`, SADD by `popcount_and_not`. -/
theorem odifMuxSaddResults : Obligations.OdifMuxSaddResults := by
  intro s x y z p hp
  have hexec : exec p.1 s = result s x p.2 := by
    simp only [List.mem_cons, List.not_mem_nil, or_false] at hp
    rcases hp with rfl | rfl | rfl | rfl | rfl | rfl
    · exact congrArg (result s x) (octaDifference_eq _ _)
    · exact congrArg (result s x) (octaDifference_eq _ _)
    · rfl
    · rfl
    · exact congrArg (fun n => result s x (BitVec.ofNat 64 n)) (popcount_and_not _ _)
    · exact congrArg (fun n => result s x (BitVec.ofNat 64 n)) (popcount_and_not _ _)
  exact writesReg_of_result hexec

/-! ### Bit matrices -/

theorem bitsOf_lt (f : Nat → Bool) (n : Nat) : bitsOf f n < 2 ^ n := by
  induction n with
  | zero => exact Nat.one_pos
  | succ n ih =>
    rw [bitsOf, Nat.pow_succ]
    split <;> omega

theorem testBit_bitsOf (f : Nat → Bool) {n i : Nat} (hi : i < n) : (bitsOf f n).testBit i = f i := by
  induction n with
  | zero => exact absurd hi (Nat.not_lt_zero i)
  | succ n ih =>
    have hbits : bitsOf f (n + 1) = 2 ^ n * (f n).toNat + bitsOf f n := by
      rw [bitsOf, Nat.add_comm]
      cases f n <;> simp
    rw [hbits, Nat.testBit_two_pow_mul_add _ (bitsOf_lt f n)]
    split
    case isTrue hlt => exact ih hlt
    case isFalse hge =>
      obtain rfl : i = n := by omega
      rw [Nat.sub_self]
      cases f i <;> rfl

theorem getLsbD_matrixProduct (combine : List Bool → Bool) (y z : Octa) {r c : Nat} (hr : r < 8) (hc : c < 8) :
    (matrixProduct combine y z).getLsbD (8 * r + c) = combine (matrixProducts y z r c) := by
  have hi : 8 * r + c < 64 := by omega
  have hrow : (8 * r + c) / 8 = r := by omega
  have hcolumn : (8 * r + c) % 8 = c := by omega
  rw [matrixProduct, BitVec.getLsbD_ofNat, testBit_bitsOf _ hi, hrow, hcolumn, decide_eq_true hi, Bool.true_and]

theorem foldl_or (b : Bool) (l : List Bool) : l.foldl or b = (b || l.any id) := by
  induction l generalizing b with
  | nil => exact (Bool.or_false b).symm
  | cons a l ih => rw [List.foldl_cons, ih, List.any_cons, Bool.or_assoc, id_eq]

theorem orAll_iff {l : List Bool} : orAll l = true ↔ true ∈ l := by
  rw [orAll, foldl_or, Bool.false_or, List.any_eq_true]
  exact exists_eq_right

theorem foldl_xor (b : Bool) (l : List Bool) : l.foldl xor b = (b ^^ decide (l.countP id % 2 = 1)) := by
  induction l generalizing b with
  | nil => exact (Bool.xor_false b).symm
  | cons a l ih =>
    rw [List.foldl_cons, ih, Bool.xor_assoc, List.countP_cons]
    rcases Nat.mod_two_eq_zero_or_one (l.countP id) with h | h <;> cases a <;> simp [Nat.add_mod, h]

/-- The exclusive or of bits is 1 exactly if an odd number of them is. -/
theorem xorAll_iff {l : List Bool} : xorAll l = true ↔ l.countP id % 2 = 1 := by
  rw [xorAll, foldl_xor, Bool.false_xor, decide_eq_true_eq]

theorem orAll_matrixProducts (y z : Octa) (r c : Nat) : orAll (matrixProducts y z r c) = true ↔
    ∃ k < 8, z.getLsbD (8 * r + k) = true ∧ y.getLsbD (8 * k + c) = true := by
  simp only [orAll_iff, matrixProducts, List.mem_map, List.mem_range, Bool.and_eq_true]

theorem xorAll_matrixProducts (y z : Octa) (r c : Nat) : xorAll (matrixProducts y z r c) = true ↔
    ((List.range 8).countP fun k => z.getLsbD (8 * r + k) && y.getLsbD (8 * k + c)) % 2 = 1 := by
  rw [xorAll_iff, matrixProducts, List.countP_map, Function.id_comp]

/-- Settles O21: bit 8r + c of a matrix product is the OR, the XOR, of the products of row r and column c. -/
theorem bitMatrixProducts : Obligations.BitMatrixProducts := by
  intro s x y z p hp
  have hexec : exec p.1 s = result s x (matrixProduct orAll (reg s y) p.2.2) ∧
      exec p.2.1 s = result s x (matrixProduct xorAll (reg s y) p.2.2) := by
    simp only [List.mem_cons, List.not_mem_nil, or_false] at hp
    rcases hp with rfl | rfl <;> exact ⟨rfl, rfl⟩
  obtain ⟨hor, hxor⟩ := hexec
  obtain ⟨t, ht, hwt⟩ := writesReg_of_result hor
  obtain ⟨u, hu, hwu⟩ := writesReg_of_result hxor
  refine ⟨⟨t, _, ht, hwt, fun r hr c hc => ?_⟩, ⟨u, _, hu, hwu, fun r hr c hc => ?_⟩⟩
  · rw [getLsbD_matrixProduct orAll _ _ hr hc]
    exact orAll_matrixProducts ..
  · rw [getLsbD_matrixProduct xorAll _ _ hr hc]
    exact xorAll_matrixProducts ..

end Sys2Proof.Machine

namespace Sys2Proof

open Machine

/-- Settles O19: lane i of the difference is the difference of the lanes i; the statement shares its name with
`Machine.laneDifferences`. -/
theorem laneDifferences : Obligations.LaneDifferences := by
  intro s x y z p hp
  have hexec : exec p.1 s = result s x (difference p.2.1 (64 / p.2.1) (reg s y) p.2.2) ∧ p.2.1 * (64 / p.2.1) = 64 := by
    simp only [List.mem_cons, List.not_mem_nil, or_false] at hp
    rcases hp with rfl | rfl | rfl | rfl | rfl | rfl <;> dsimp only <;> exact ⟨rfl, rfl⟩
  obtain ⟨hresult, hwidth⟩ := hexec
  obtain ⟨t, ht, hw⟩ := writesReg_of_result hresult
  exact ⟨t, _, ht, hw, fun _ hi => difference_lane hwidth _ _ hi⟩

end Sys2Proof

namespace Sys2Proof.Machine

/-! ## Wyde immediates (47_wyde_immediate.md) -/

/-- Settles O39: the four instructions of a row share the place of their wyde operand (47_wyde_immediate.md R410). -/
theorem wydeImmediates : Obligations.WydeImmediates := by
  intro s x yz p hp w hw
  rw [← wydeAt_eq] at hw
  obtain ⟨hset, hinc, hor, handn⟩ : exec p.1 s = result s x w ∧ exec p.2.1 s = result s x (reg s x + w) ∧
      exec p.2.2.1 s = result s x (reg s x ||| w) ∧ exec p.2.2.2.1 s = result s x (reg s x &&& ~~~w) := by
    subst hw
    simp only [List.mem_cons, List.not_mem_nil, or_false] at hp
    rcases hp with rfl | rfl | rfl | rfl <;> exact ⟨rfl, rfl, rfl, rfl⟩
  rw [BitVec.add_def] at hinc
  exact ⟨writesReg_of_result hset, writesReg_of_result hinc, writesReg_of_result hor, writesReg_of_result handn⟩

end Sys2Proof.Machine

namespace Sys2Proof.Machine

/-! ## Events (60_exceptions.md) -/

/-- Settles O15 by the two ways in which `raiseEvents` can end. -/
theorem eventsFollowTheirRule : Obligations.EventsFollowTheirRule := by
  refine fun s es => ⟨fun h => ?_, fun first e rest hes hfirst he => ?_⟩
  · obtain ⟨t, ht, hA⟩ := raiseEvents_ok h
    exact ⟨t, ht, hA.noted, hA.specials, readRef_congr hA.locals hA.globals, hA.memory, hA.pc, hA.launch,
      hA.linkage⟩
  · rw [hes]
    exact raiseEvents_error hfirst he

end Sys2Proof.Machine

namespace Sys2Proof.Machine

/-! ## Control transfer (48_control_transfer.md) -/

/-! ### GO -/

theorem WritesRegAt.setPc {s t : State} {x : Byte} {v p : Octa} {es : List Event} {ns : List (Fin 32)}
    (h : WritesRegAt s t x v es ns p) (q : Octa) : WritesRegAt s (setPc t q) x v es ns q := by
  obtain ⟨hreg, hregs, hspecials, hnoted, hmemory, hlaunch, -⟩ := h
  exact ⟨hreg, hregs, hspecials, hnoted, hmemory, hlaunch, rfl⟩

/-- GO is the write of a result, but for the place where the run goes on. -/
theorem goTo_eq (s : State) (x : Byte) (A : Octa) :
    ∃ t, goTo s x A = .next t ∧ WritesRegAt s t x (s.pc + 4) [] [] A := by
  obtain ⟨t, ht, hw⟩ := result_eq s x (s.pc + 4)
  cases ht
  exact ⟨_, rfl, hw.setPc A⟩

/-- Settles O40: both forms end in `goTo`, each with its own sum. -/
theorem goTransfers : Obligations.GoTransfers := by
  intro s x y z p hp
  rw [exec_of_address_forms (i := .go x y z) (j := .goi x y z) (f := goTo s x) rfl rfl p hp]
  exact goTo_eq s x p.2

/-! ### JMP, GETA and SWYM -/

theorem longForward_eq (s : State) (xyz : BitVec 24) :
    longForward s xyz = s.pc + BitVec.ofNat 64 (4 * xyz.toNat) := by
  rw [longForward, BitVec.ofNat_mul, BitVec.ofNat_toNat]
  rfl

/-- The backward target is the forward one less the number of addresses that the forward targets span
(30_encoding.md R110). -/
theorem longBackward_eq (s : State) (xyz : BitVec 24) :
    longBackward s xyz = s.pc + BitVec.ofInt 64 (4 * xyz.toNat - 2 ^ 26) := by
  have hoffset : BitVec.ofInt 64 (4 * xyz.toNat - 2 ^ 26) = BitVec.ofNat 64 (4 * xyz.toNat) + -67108864 := by
    rw [Int.sub_eq_add_neg, BitVec.ofInt_add]
    rfl
  calc longBackward s xyz
    _ = longForward s xyz + -67108864 := BitVec.sub_eq_add_neg ..
    _ = s.pc + BitVec.ofInt 64 (4 * xyz.toNat - 2 ^ 26) := by rw [longForward_eq, hoffset, BitVec.add_assoc]

/-- Settles O41: JMP, JMPB and SWYM move the pc alone, GETA and GETAB end in `result` of their address. -/
theorem jumpsGetaAndSwym : Obligations.JumpsGetaAndSwym := by
  intro s x yz xyz
  have hjmp : exec (.jmp xyz) s = jump s (longForward s xyz) := rfl
  have hjmpb : exec (.jmpb xyz) s = jump s (longBackward s xyz) := rfl
  have hgeta : exec (.geta x yz) s = result s x (forward s yz) := rfl
  have hgetab : exec (.getab x yz) s = result s x (backward s yz) := rfl
  rw [longForward_eq] at hjmp
  rw [longBackward_eq] at hjmpb
  rw [forward_eq] at hgeta
  rw [backward_eq] at hgetab
  exact ⟨hjmp, hjmpb, rfl, writesReg_of_result hgeta, writesReg_of_result hgetab⟩

/-! ### CALL, RET and TRAP: the host's functions -/

theorem hostResult_of_legal {u : State} (s : State) (h : legal u) :
    hostResult s u = { u with launch := { s.launch with mapped := u.launch.mapped }, draws := s.draws + 1 } :=
  if_pos h

/-- What is no state of the machine only passes the instruction (log entry 10). -/
theorem hostResult_of_not_legal {u : State} (s : State) (h : ¬ legal u) :
    hostResult s u = { s with pc := s.pc + 4, draws := s.draws + 1 } :=
  if_neg h

theorem linkageResult_of_legal {u : State} (s : State) (h : legal u) :
    linkageResult s u = { u with launch := s.launch, draws := s.draws + 1 } := by
  rw [linkageResult, hostResult_of_legal s h]

theorem linkageResult_of_not_legal {u : State} (s : State) (h : ¬ legal u) :
    linkageResult s u = { s with pc := s.pc + 4, draws := s.draws + 1 } := by
  rw [linkageResult, hostResult_of_not_legal s h]

theorem callSubroutine_of_linkage {s : State} (h : s.launch.callLinkage = true) (i : Instr) (x : Byte) (A : Octa) :
    callSubroutine s i x A = .next (setPc (linkageResult s (Config.callLinkage x A s)) A) :=
  if_pos h

theorem callSubroutine_of_no_linkage {s : State} (h : s.launch.callLinkage = false) (i : Instr) (x : Byte) (A : Octa) :
    callSubroutine s i x A = .refused (.linkageUnmodelled (word i)) :=
  if_neg (Bool.eq_false_iff.mp h)

theorem execRet_of_linkage {s : State} (h : s.launch.callLinkage = true) :
    execRet s = .next (linkageResult s (Config.retLinkage s)) :=
  if_pos h

theorem execRet_of_no_linkage {s : State} (h : s.launch.callLinkage = false) :
    execRet s = .refused (.linkageUnmodelled (fetchedWord s)) :=
  if_neg (Bool.eq_false_iff.mp h)

theorem execTrap_of_no_osTrap {s : State} (h : s.launch.osTrap = none) (y : Byte) :
    execTrap 0 y 0 s = .refused (.osTrapUnmodelled y) := by
  simp [execTrap, h]

theorem execTrap_of_osTrap {s : State} {os : OsTrap} (h : s.launch.osTrap = some os) (y : Byte) :
    execTrap 0 y 0 s = if y ∈ os.mayEnd ∧ Config.osTrapEnds y s = true
      then .fault (.runEnded y (Config.osExitStatus y s)) else .next (hostResult s (Config.osTrap y s)) := by
  simp [execTrap, h, raise]

/-- Settles O46: each of the four instructions looks for its parameter first. -/
theorem openParametersAbsent : Obligations.OpenParametersAbsent :=
  fun _ x y _ => ⟨fun h => execTrap_of_no_osTrap h y, fun h =>
    ⟨callSubroutine_of_no_linkage h _ x _, callSubroutine_of_no_linkage h _ x _, execRet_of_no_linkage h⟩⟩

/-- Settles O47: the functions that do not end the run leave a `hostResult`, whose laws give the rest. -/
theorem trapWithOsTrapSupplied : Obligations.TrapWithOsTrapSupplied := by
  intro s y os hos
  have htrap := execTrap_of_osTrap hos y
  refine ⟨htrap, fun hy => ?_, fun u => ⟨hostResult_of_legal s, hostResult_of_not_legal s⟩⟩
  obtain ⟨hmisalign, hosTrap, hcallLinkage⟩ := hostResult_launch s (Config.osTrap y s)
  rw [if_neg fun hends => hy hends.1] at htrap
  exact ⟨_, htrap, rfl, hmisalign, hosTrap, hcallLinkage, hostResult_legal⟩

/-- Settles O48: CALL, CALLI and RET leave a `linkageResult`, the first two with the pc at the target. -/
theorem callsWithLinkageSupplied : Obligations.CallsWithLinkageSupplied := by
  intro s x y z h
  refine ⟨?_, ⟨_, execRet_of_linkage h, rfl, linkageResult_launch .., linkageResult_legal⟩,
    fun u => ⟨linkageResult_of_legal s, linkageResult_of_not_legal s⟩⟩
  intro p hp
  have hcall := exec_of_address_forms (i := .call x y z) (j := .calli x y z)
    (f := fun A => .next (setPc (linkageResult s (Config.callLinkage x A s)) A))
    (callSubroutine_of_linkage h _ x _) (callSubroutine_of_linkage h _ x _) p hp
  exact ⟨_, hcall, rfl, rfl, (setPc_launch ..).trans (linkageResult_launch ..),
    fun hs => (legal_setPc _).mpr (linkageResult_legal hs)⟩

end Sys2Proof.Machine

namespace Sys2Proof.Machine

/-! ## PUT and GET (49_system.md) -/

/-! ### The checks of PUT -/

theorem putNumberLegal_iff {x : Byte} :
    putNumberLegal x = true ↔ x.toNat < 32 ∧ ¬ (8 ≤ x.toNat ∧ x.toNat ≤ 18) := by
  rw [putNumberLegal, ← Bool.decide_and, ← decide_not, ← Bool.decide_and, decide_eq_true_iff]

theorem putValueLegal_iff {x : Byte} {v : Octa} : putValueLegal x v = true ↔
    (x = 21 → v.toNat < 2 ^ 18) ∧ (x = 19 → 32 ≤ v.toNat ∧ v.toNat ≤ 255) := by
  unfold putValueLegal
  split
  case isTrue h => subst h; simp
  case isFalse h =>
    split
    case isTrue h' => subst h'; simp
    case isFalse h' => exact ⟨fun _ => ⟨fun hx => absurd hx h, fun hx => absurd hx h'⟩, fun _ => rfl⟩

theorem exec_put_of_legal {s : State} {x z : Byte} (hn : putNumberLegal x = true)
    (hv : putValueLegal x (reg s z) = true) :
    exec (.put x 0 z) s = .next (advance (putSpecial s (specialIndex x) (reg s z))) :=
  if_pos ⟨hn, hv⟩

theorem exec_put_of_illegal {s : State} {x y z : Byte}
    (h : ¬ (y = 0 ∧ putNumberLegal x = true ∧ putValueLegal x (reg s z) = true)) :
    exec (.put x y z) s = .fault (.illegalInstruction (word (.put x y z))) :=
  withZeroY_illegal fun hy => if_neg fun hlegal => h ⟨hy, hlegal⟩

/-! ### What PUT writes -/

/-- t is s after special register n has taken v, but for the general registers: an instruction that goes on at pc + 4,
and that changes no other special register, no local and nothing outside the registers. -/
structure PutsSpecial (s t : State) (n : Fin 32) (v : Octa) : Prop where
  written : special t n = v
  specials : SpecialsSame s t [n]
  locals : t.locals = s.locals
  memory : MemorySame s t
  launch : LaunchSame s t
  pc : t.pc = s.pc + 4

theorem putsSpecial_advance (s : State) (n : Fin 32) (v : Octa) : PutsSpecial s (advance (putSpecial s n v)) n v := by
  obtain ⟨hmemory, hlaunch, hlocals, hpc, hlinkage⟩ := putSpecial_rest s n v
  refine ⟨?_, fun m hm => ?_, hlocals, fun a => ?_, ⟨hlaunch, hlinkage⟩, ?_⟩
  · rw [special_advance, special_putSpecial, if_pos rfl]
  · rw [special_advance, special_putSpecial, if_neg (List.ne_of_not_mem_cons hm)]
  · rw [advance_memory, hmemory]
  · rw [advance_pc, hpc]

theorem putSpecial_of_ne_rG {n : Fin 32} (s : State) (v : Octa) (h : n ≠ rG) :
    putSpecial s n v = setSpecial s n v := by
  rw [putSpecial, if_neg h]

theorem putSpecial_rG_globals (s : State) (v : Octa) :
    (putSpecial s rG v).globals = (exposeGlobals s (special s rG).toNat v.toNat).globals := by
  rw [putSpecial, if_pos rfl, setSpecial_globals]

theorem specialIndex_ofNat (n : Fin 32) : specialIndex (BitVec.ofNat 8 n.val) = n := by
  revert n
  decide

/-- A test of the byte X of PUT is a test of the special register that it names. -/
theorem eq_specialIndex_of_ofNat_eq {n : Fin 32} {x : Byte} (h : BitVec.ofNat 8 n.val = x) : n = specialIndex x :=
  h ▸ (specialIndex_ofNat n).symm

/-- Settles O42: outside rG a PUT writes the special register alone. -/
theorem putWritesTheSpecialRegister : Obligations.PutWritesTheSpecialRegister := by
  intro s n z hG hreadonly hA
  have hnumber : putNumberLegal (BitVec.ofNat 8 n.val) = true := by
    rw [putNumberLegal_iff, BitVec.toNat_ofNat, Nat.mod_eq_of_lt (by omega)]
    exact ⟨n.isLt, hreadonly⟩
  have hvalue : putValueLegal (BitVec.ofNat 8 n.val) (reg s z) = true :=
    putValueLegal_iff.mpr ⟨fun h => hA (eq_specialIndex_of_ofNat_eq h),
      fun h => absurd (eq_specialIndex_of_ofNat_eq h) hG⟩
  have hexec := exec_put_of_legal hnumber hvalue
  rw [specialIndex_ofNat] at hexec
  have hput := putsSpecial_advance s n (reg s z)
  have hregs : RegsSame s (advance (putSpecial s n (reg s z))) := fun r => by
    rw [readRef_advance, putSpecial_of_ne_rG s _ hG, readRef_setSpecial]
  exact ⟨_, hexec, hput.written, hput.specials, hregs, hput.memory, hput.launch, hput.pc⟩

/-- Settles O43: a PUT to rG also exposes globals, and `exposeGlobals` keeps the others. -/
theorem putToTheGlobalThreshold : Obligations.PutToTheGlobalThreshold := by
  intro s z hlow hhigh
  have hexec : exec (.put 19 0 z) s = .next (advance (putSpecial s rG (reg s z))) :=
    exec_put_of_legal rfl (putValueLegal_iff.mpr ⟨fun h => absurd h (by decide), fun _ => ⟨hlow, hhigh⟩⟩)
  have hput := putsSpecial_advance s rG (reg s z)
  refine ⟨_, hexec, hput.written, hput.specials, hput.locals, hput.memory, hput.launch, hput.pc, fun i hi => ?_⟩
  simp only [advance_globals, putSpecial_rG_globals]
  exact exposeGlobals_globals s _ _ i hi

/-- Settles O44: the checks of the statement are those of `putNumberLegal` and `putValueLegal`. -/
theorem putFollowsItsChecks : Obligations.PutFollowsItsChecks := by
  intro s x y z
  refine ⟨fun h => exec_put_of_illegal ?_, fun h => ?_⟩
  · rintro ⟨hy, hnumber, hvalue⟩
    obtain ⟨hlt, hreadonly⟩ := putNumberLegal_iff.mp hnumber
    obtain ⟨hA, hG⟩ := putValueLegal_iff.mp hvalue
    rcases h with h | h | h | ⟨hx, h⟩ | ⟨hx, h⟩
    · exact h hy
    · exact absurd hlt (Nat.not_lt.mpr h)
    · exact hreadonly h
    · exact absurd (hA hx) (Nat.not_lt.mpr h)
    · have := hG hx
      omega
  · simp only [not_or, not_and, not_not, ge_iff_le, not_le, not_lt, gt_iff_lt] at h
    obtain ⟨rfl, hlt, hreadonly, hA, hG⟩ := h
    have hnumber : putNumberLegal x = true :=
      putNumberLegal_iff.mpr ⟨hlt, fun hx => Nat.not_le.mpr (hreadonly hx.1) hx.2⟩
    have hvalue : putValueLegal x (reg s z) = true := putValueLegal_iff.mpr ⟨hA, hG⟩
    have hput := putsSpecial_advance s (specialIndex x) (reg s z)
    exact ⟨_, exec_put_of_legal hnumber hvalue, hput.written, hput.pc⟩

/-! ### GET -/

theorem exec_get_eq {z : Byte} (s : State) (x : Byte) (h : z.toNat < 32) : exec (.get x 0 z) s =
    if z = 8 ∨ z = 12 ∨ z = 17 then resultAny s x id [] else result s x (special s (specialIndex z)) :=
  if_pos h

theorem exec_get_illegal {y z : Byte} (s : State) (x : Byte) (h : y ≠ 0 ∨ 32 ≤ z.toNat) :
    exec (.get x y z) s = .fault (.illegalInstruction (word (.get x y z))) :=
  withZeroY_illegal fun hy => if_neg fun hz => h.elim (· hy) (Nat.not_le.mpr hz)

/-- Settles O45: GET ends in the write of a free value for rC, rI and rU, and of the special register for the others. -/
theorem getReadsTheSpecialRegister : Obligations.GetReadsTheSpecialRegister := by
  refine fun s x y z => ⟨?_, exec_get_illegal s x⟩
  rintro rfl hz
  have hexec := exec_get_eq s x hz
  split at hexec
  case isTrue hfree =>
    obtain ⟨t, ht, hw⟩ := resultAny_eq (s := s) (es := []) x id fun _ he => absurd he List.not_mem_nil
    exact ⟨t, _, hexec.trans ht, hw, fun h8 h12 h17 => (hfree.elim h8 (·.elim h12 h17)).elim⟩
  case isFalse =>
    obtain ⟨t, ht, hw⟩ := writesReg_of_result hexec
    exact ⟨t, _, ht, hw, fun _ _ _ => rfl⟩

end Sys2Proof.Machine
